-- ==== Sys2Proof/Word.lean ====
section
/-! DEFINITION. The word types of the block (00_scope.md R9): wire bytes are `u8`; axes, scalar operands and results
are 16-bit patterns, read as `i16` through `toInt` and as `u16` through `toNat`. -/

namespace Sys2Proof

/-- A wire byte, `u8` (R9). -/
abbrev Byte := BitVec 8

/-- A 16-bit pattern: an axis (`i16`), a rumble intensity (`u16`) or a result register (R9, 10_state.md R26). -/
abbrev Word := BitVec 16

end Sys2Proof
end

