-- ==== Sys2Proof/Syntax.lean ====
section
/-! DEFINITION. The command port (30_encoding.md R49), the snapshot port (10_state.md R24), and the commands with the
operands each one reads (30_encoding.md R50, R51): one constructor of `Instr` for each row of spec/opcode_table.json. -/

namespace Sys2Proof

/-- The eight lanes of the vector operand, lane 0 first (R49). -/
structure Lanes (α : Type) where
  l0 : α
  l1 : α
  l2 : α
  l3 : α
  l4 : α
  l5 : α
  l6 : α
  l7 : α
  deriving DecidableEq, Repr, Inhabited

/-- The command port: the bits the host presents with one command (R49). -/
structure Command where
  op : Byte
  a : Word
  b : Word
  v : Lanes Word
  vlen : BitVec 4
  deriving DecidableEq, Repr, Inhabited

/-- The controller snapshot port: a read-only view of one controller at one instant (10_state.md R24). -/
structure Snapshot where
  dpadUp : Bool
  dpadDown : Bool
  dpadLeft : Bool
  dpadRight : Bool
  start : Bool
  back : Bool
  l3 : Bool
  r3 : Bool
  a : Bool
  b : Bool
  x : Bool
  y : Bool
  l1 : Bool
  r1 : Bool
  guide : Bool
  leftTrigger : Word
  rightTrigger : Word
  leftX : Word
  leftY : Word
  rightX : Word
  rightY : Word
  deriving DecidableEq, Repr, Inhabited

/-- The neutral snapshot: every button released and every axis 0 (41_packet_builder.md R81 item 4). -/
def Snapshot.neutral : Snapshot where
  dpadUp := false
  dpadDown := false
  dpadLeft := false
  dpadRight := false
  start := false
  back := false
  l3 := false
  r3 := false
  a := false
  b := false
  x := false
  y := false
  l1 := false
  r1 := false
  guide := false
  leftTrigger := 0#16
  rightTrigger := 0#16
  leftX := 0#16
  leftY := 0#16
  rightX := 0#16
  rightY := 0#16

/-- The 18 commands (R51), each with the port fields it reads and no other (R50). The session registers and the
snapshot port that some of them read as well are in the state, not here. -/
inductive Instr where
  /-- `CONFIG` (42_handshake_fsm.md R82): `m` = `a[1:0]`, the trigger-mode code; `n` = `a[2]`. -/
  | config (m : BitVec 2) (n : Bool)
  /-- `BTA8` (40_value_codec.md R61): `p` = `a[0]`. -/
  | bta8 (p : Bool)
  /-- `BTA16` (R62): `p` = `a[0]`. -/
  | bta16 (p : Bool)
  /-- `ATB8` (R63): `v` = `a[7:0]` as `u8`. -/
  | atb8 (v : Byte)
  /-- `ATB16` (R64): `v` = `a[15:0]` as `i16`. -/
  | atb16 (v : Word)
  /-- `SCALE` (R65): `x` = `a[15:0]` as `i16`. -/
  | scale (x : Word)
  /-- `HAPOS` (R66): `x` = `a[15:0]` as `i16`. -/
  | hapos (x : Word)
  /-- `HANEG` (R67): `x` = `a[15:0]` as `i16`. -/
  | haneg (x : Word)
  /-- `NORM` (R68): `x` = `a`, `y` = `b`, both as `i16`. -/
  | norm (x y : Word)
  /-- `COL8` (R69): `vlen` and the lanes `v[i][7:0]`. -/
  | col8 (vlen : BitVec 4) (v : Lanes Byte)
  /-- `COL16` (R70): `vlen` and the lanes `v[i][15:0]`. -/
  | col16 (vlen : BitVec 4) (v : Lanes Word)
  /-- `BUILD20` (41_packet_builder.md R78). -/
  | build20
  /-- `BUILD7` (R79). -/
  | build7
  /-- `PROBE` (R80). -/
  | probe
  /-- `HANDSHAKE` (42_handshake_fsm.md R83). -/
  | handshake
  /-- `UPDATE` (43_update_haptic.md R96). -/
  | update
  /-- `HAPTIC` (R99): `vlen` and the lanes `v[i][7:0]` that a legal `vlen` (0..4) can reach. -/
  | haptic (vlen : BitVec 4) (r0 r1 r2 r3 : Byte)
  /-- `ACKDEC` (R100): `vlen` and the lane `v[0][7:0]`. -/
  | ackdec (vlen : BitVec 4) (r0 : Byte)
  deriving DecidableEq, Repr

end Sys2Proof
end

