-- ==== Sys2Proof/Config.lean ====
section
/-! DEFINITION. The parameters of the block (00_scope.md R8), the types of what the world outside may answer or do
(20_memory.md R39 to R41, 60_exceptions.md R114), and the free oracles that answer when nothing has been decided. -/

namespace Sys2Proof

/-- The effect of an I/O error during the probe write or the probe read (`PROBE_ERROR_POLICY`, R8;
92_eei_decisions.md D11). -/
inductive ProbeErrorPolicy where
  /-- The default: the error is fatal. -/
  | abort
  /-- The allowed alternative: the verdict is `Undetermined` and the handshake goes on. -/
  | unknown
  deriving DecidableEq, Repr, Inhabited

/-- What `TxWrite` answers (20_memory.md R39). -/
inductive TxResult where
  /-- Every byte was accepted, in order. -/
  | ok
  /-- A non-timeout I/O error; the first `sent` bytes, and no more, reached the device. -/
  | ioErr (sent : Nat)
  deriving DecidableEq, Repr, Inhabited

/-- What `RxRead` answers (20_memory.md R40). -/
inductive RxResult where
  /-- These bytes were removed from the transport's receive buffer, in arrival order. -/
  | bytes (l : List Byte)
  /-- No byte arrived within the transport's timeout. -/
  | timeout
  /-- A non-timeout I/O error. -/
  | ioErr
  deriving DecidableEq, Repr, Inhabited

/-- What the host does next (60_exceptions.md R114, 70_reset_and_hazards.md R122 to R124). DESIGN CHOICE (log 2):
one step of the machine takes exactly one of these. -/
inductive HostAction where
  /-- Issue a command on the command port (30_encoding.md R49). -/
  | command (c : Command)
  /-- Drive other values on the snapshot port (10_state.md R24). -/
  | snapshot (p : Snapshot)
  /-- Reset the block: a new session (70_reset_and_hazards.md R122, R123). -/
  | reset
  /-- Leave the block alone: it takes an FSM step if it is busy (42_handshake_fsm.md R91). -/
  | idle
  deriving DecidableEq, Repr, Inhabited

/-- The magic byte, frame byte 0 and the mark of the Extended dialect (`MAGIC`, R8; 30_encoding.md R59). -/
def Config.magic : Byte := 0x5A#8

/-- The mode byte while guide is held (`MODE_GUIDE`, R8; 30_encoding.md R57). -/
def Config.modeGuide : Byte := 0xAA#8

/-- The mode byte while guide is not held (`MODE_IDLE`, R8; 30_encoding.md R57). -/
def Config.modeIdle : Byte := 0x55#8

/-- The most bytes read per response (`RX_MAX`, R8). -/
def Config.rxMax : Nat := 4

/-- The duration of a rumble command in milliseconds (`RUMBLE_DURATION_MS`, R8; 92_eei_decisions.md D21). -/
def Config.rumbleDurationMs : Word := 500#16

/-- Which of the 127 values R8 admits for `MINIMAL_ERR_CHAR` the block has. OPEN (92_eei_decisions.md D8): no body, so
nothing can be proved of it (log 5). -/
opaque Config.minimalErrIndex : Fin 127

/-- `MINIMAL_ERR_CHAR` (R8): the minimal firmware's error character, any of 0x00..0x7F but 0x5A (log 5). -/
def Config.minimalErrChar : Byte :=
  if Config.minimalErrIndex.val < 0x5A then BitVec.ofNat 8 Config.minimalErrIndex.val
  else BitVec.ofNat 8 (Config.minimalErrIndex.val + 1)

/-- By how much `FLUSH_READ_MAX` exceeds 1. OPEN (92_eei_decisions.md D14): no body (log 6). -/
opaque Config.flushReadExtra : Nat

/-- `FLUSH_READ_MAX` (R8): the most bytes one buffer-clearing read may return, any integer of at least 1 (log 6). -/
def Config.flushReadMax : Nat := Config.flushReadExtra + 1

/-- The device's answer to a read that the state has not decided: a free draw (20_memory.md R41; log 3). -/
opaque Config.readOracle : Nat → RxResult

/-- The device's answer to a write that the state has not decided: a free draw (20_memory.md R41; log 3). -/
opaque Config.writeOracle : Nat → TxResult

/-- The host's next action where the state has not decided it: the host is free (60_exceptions.md R114; log 2). -/
opaque Config.hostOracle : Nat → HostAction

end Sys2Proof
end

