-- ==== Sys2Proof/Machine/State.lean ====
section
/-! DEFINITION. The state of the block (10_state.md R19 to R31), the input port it reads (R24), the one parameter held
as data (00_scope.md R8), and the model's own fields for the world outside; the reset state (10_state.md R32). -/

namespace Sys2Proof.Machine

/-- The TriggerMode values `cfg_tm` holds (10_state.md R19); code 3 is never held. -/
inductive TriggerMode where
  | normal
  | rightStickAsTrigger
  | crossSquareAsTrigger
  deriving DecidableEq, Repr

/-- The handshake states `hs_state` holds (10_state.md R21). -/
inductive HsState where
  | start
  | flushPre
  | probed
  | flushPost
  | minimal
  | extended
  | unknown
  | aborted
  deriving DecidableEq, Repr

/-- The CommunicationMode values `comm_mode` and `hs_verdict` hold (10_state.md R22, R23); code 3 is never held. -/
inductive CommMode where
  | undetermined
  | minimal
  | extended
  deriving DecidableEq, Repr

/-- The error codes `last_err` holds (60_exceptions.md R102); codes 13 to 15 are never written. -/
inductive ErrCode where
  | none
  | invalidInputLength
  | illegalOp
  | busy
  | configLocked
  | invalidConfig
  | alreadyNegotiated
  | notNegotiated
  | fatalIo
  | txIo
  | rxIo
  | unrecognizedResponse
  | aborted
  deriving DecidableEq, Repr

/-- A rumble command (10_state.md R27): `low` is the large motor's intensity, `high` the small motor's. -/
inductive RumbleCmd where
  | none
  | stop
  | set (low high durMs : Word)
  deriving DecidableEq, Repr

/-- The lengths `tx_len` holds: 0, 7 or 20 (10_state.md R28). -/
inductive FrameLen where
  | empty
  | minimal
  | extended
  deriving DecidableEq, Repr

/-- The frame register, byte 0 first, each byte under its field's name (10_state.md R28, 30_encoding.md R54). -/
structure Frame where
  magic : Byte
  buttons1 : Byte
  buttons2 : Byte
  rightX : Byte
  rightY : Byte
  leftX : Byte
  leftY : Byte
  pRight : Byte
  pLeft : Byte
  pUp : Byte
  pDown : Byte
  pTriangle : Byte
  pCircle : Byte
  pCross : Byte
  pSquare : Byte
  pL1 : Byte
  pR1 : Byte
  pL2 : Byte
  pR2 : Byte
  mode : Byte
  deriving DecidableEq, Repr

/-- The response register's four bytes (10_state.md R29). -/
structure RxBuf where
  b0 : Byte
  b1 : Byte
  b2 : Byte
  b3 : Byte
  deriving DecidableEq, Repr

/-- One interaction of the block with the world outside: the model's record of it (log 10). -/
inductive Interaction where
  /-- `TxWrite(bytes)` and its answer (20_memory.md R39). -/
  | txWrite (bytes : List Byte) (answer : TxResult)
  /-- `RxRead(n)` and its answer (20_memory.md R40). -/
  | rxRead (n : Nat) (answer : RxResult)
  /-- `set_rumble(low, high, dur_ms)` (43_update_haptic.md R95). -/
  | setRumble (low high durMs : Word)
  deriving DecidableEq, Repr

/-- The state. From `cfgTm` to `ackFail` it is the block's own (10_state.md R19 to R31); `snap` is the input port
(R24); `probePolicy` is a parameter no rule writes (log 7); the rest is the model's view of the host, the device and
what they were told (log 2, log 3, log 10). -/
structure State where
  /-- `cfg_tm` (R19). -/
  cfgTm : TriggerMode
  /-- `cfg_norm` (R20). -/
  cfgNorm : Bool
  /-- `hs_state` (R21). -/
  hsState : HsState
  /-- `hs_verdict` (R22). -/
  hsVerdict : CommMode
  /-- `comm_mode` (R23). -/
  commMode : CommMode
  /-- `res` (R26). -/
  res : Word
  /-- `res2` (R26). -/
  res2 : Word
  /-- `rumble_cmd` (R27). -/
  rumbleCmd : RumbleCmd
  /-- `tx_frame[0..19]` (R28). -/
  txFrame : Frame
  /-- `tx_len` (R28). -/
  txLen : FrameLen
  /-- `rx_buf[0..3]` (R29). -/
  rxBuf : RxBuf
  /-- `rx_len` (R29). -/
  rxLen : Fin 5
  /-- `last_err` (R30). -/
  lastErr : ErrCode
  /-- `ack_fail` (R31). -/
  ackFail : Bool
  /-- `snap`, the values now on the snapshot port (R24). -/
  snap : Snapshot
  /-- `PROBE_ERROR_POLICY` (00_scope.md R8; log 7). -/
  probePolicy : ProbeErrorPolicy
  /-- What the host does next, the next action first; past its end `Config.hostOracle` decides (log 2). -/
  host : List HostAction
  /-- What the device answers to the next reads; past its end `Config.readOracle` decides (log 3). -/
  reads : List RxResult
  /-- What the device answers to the next writes; past its end `Config.writeOracle` decides (log 3). -/
  writes : List TxResult
  /-- How many answers the oracles of `Config` have given (log 3). -/
  drawn : Nat
  /-- Every interaction so far, oldest first; nothing reads it (log 10). -/
  trace : List Interaction
  deriving DecidableEq, Repr

/-- The reasons a step could stop the machine. There is NONE: every error of the block, the fatal one too, is a next
state (60_exceptions.md R104, R110; log 13), so no step ends in a fault; safe. -/
inductive Fault where
  deriving DecidableEq, Repr

/-- The reasons a step could be refused by the model. -/
inductive Refusal where
  /-- Raised by an arm of `exec` for a command that has no meaning yet; no arm raises it; safe. -/
  | notModelled (mnemonic : String)
  deriving DecidableEq, Repr

/-- A frame of zeros (10_state.md R32). -/
def Frame.zero : Frame :=
  ⟨0#8, 0#8, 0#8, 0#8, 0#8, 0#8, 0#8, 0#8, 0#8, 0#8, 0#8, 0#8, 0#8, 0#8, 0#8, 0#8, 0#8, 0#8, 0#8, 0#8⟩

/-- The machine right after reset (10_state.md R32, 70_reset_and_hazards.md R122). The snapshot is an input, neutral
here (DESIGN CHOICE, log 9); the policy is the default of R8 (log 7); nothing of the world outside is decided or has
happened yet (DESIGN CHOICE, log 12). -/
def State.reset : State where
  cfgTm := .normal
  cfgNorm := false
  hsState := .start
  hsVerdict := .undetermined
  commMode := .undetermined
  res := 0#16
  res2 := 0#16
  rumbleCmd := .none
  txFrame := Frame.zero
  txLen := .empty
  rxBuf := ⟨0#8, 0#8, 0#8, 0#8⟩
  rxLen := 0
  lastErr := .none
  ackFail := false
  snap := Snapshot.neutral
  probePolicy := .abort
  host := []
  reads := []
  writes := []
  drawn := 0
  trace := []

end Sys2Proof.Machine
end

