-- ==== Sys2Proof/Machine/Flags.lean ====
section
/-! DEFINITION. The numeric codes of the enumerated registers (10_state.md R19, R21, R23, R28; 60_exceptions.md R102)
and the status views derived from `hs_state` (10_state.md R21). -/

namespace Sys2Proof.Machine

/-- The 2-bit code of `cfg_tm` (10_state.md R19). -/
def TriggerMode.code : TriggerMode → BitVec 2
  | .normal => 0#2
  | .rightStickAsTrigger => 1#2
  | .crossSquareAsTrigger => 2#2

/-- The trigger mode of a `CONFIG` code; code 3 is reserved (10_state.md R19). -/
def TriggerMode.ofCode (m : BitVec 2) : Option TriggerMode :=
  if m = 0#2 then some .normal
  else if m = 1#2 then some .rightStickAsTrigger
  else if m = 2#2 then some .crossSquareAsTrigger
  else none

/-- The 3-bit code of `hs_state` (10_state.md R21). -/
def HsState.code : HsState → BitVec 3
  | .start => 0#3
  | .flushPre => 1#3
  | .probed => 2#3
  | .flushPost => 3#3
  | .minimal => 4#3
  | .extended => 5#3
  | .unknown => 6#3
  | .aborted => 7#3

/-- The 2-bit code of `comm_mode` and `hs_verdict` (10_state.md R22, R23). -/
def CommMode.code : CommMode → BitVec 2
  | .undetermined => 0#2
  | .minimal => 1#2
  | .extended => 2#2

/-- The 4-bit code of `last_err` (60_exceptions.md R102). -/
def ErrCode.code : ErrCode → BitVec 4
  | .none => 0#4
  | .invalidInputLength => 1#4
  | .illegalOp => 2#4
  | .busy => 3#4
  | .configLocked => 4#4
  | .invalidConfig => 5#4
  | .alreadyNegotiated => 6#4
  | .notNegotiated => 7#4
  | .fatalIo => 8#4
  | .txIo => 9#4
  | .rxIo => 10#4
  | .unrecognizedResponse => 11#4
  | .aborted => 12#4

/-- The length `tx_len` stands for (10_state.md R28). -/
def FrameLen.toNat : FrameLen → Nat
  | .empty => 0
  | .minimal => 7
  | .extended => 20

/-- `busy`: `hs_state` is one of `FLUSH_PRE`, `PROBED`, `FLUSH_POST` (10_state.md R21). -/
def HsState.busy : HsState → Bool
  | .flushPre | .probed | .flushPost => true
  | .start | .minimal | .extended | .unknown | .aborted => false

/-- `negotiated`: `hs_state` is one of `MINIMAL`, `EXTENDED`, `UNKNOWN` (10_state.md R21). -/
def HsState.negotiated : HsState → Bool
  | .minimal | .extended | .unknown => true
  | .start | .flushPre | .probed | .flushPost | .aborted => false

/-- `fatal`: `hs_state` is `ABORTED` (10_state.md R21). -/
def HsState.fatal : HsState → Bool
  | .aborted => true
  | .start | .flushPre | .probed | .flushPost | .minimal | .extended | .unknown => false

/-- The terminal states (42_handshake_fsm.md R88). -/
def HsState.terminal (h : HsState) : Bool := h.negotiated || h.fatal

end Sys2Proof.Machine
end

