-- ==== Sys2Proof/Decode.lean ====
section
/-! DEFINITION. The decoder of the command port, total on any port value (30_encoding.md R50 to R52), the encoder
after it, and the port written as one number (log 8). -/

namespace Sys2Proof

/-- Why a port value is no command. -/
inductive DecodeError where
  /-- `op` is reserved (R52). -/
  | reservedOp (op : Byte)
  deriving DecidableEq, Repr

/-- Bits 7..0 of a port field (R10, R50). -/
def lowByte (w : Word) : Byte := w.extractLsb' 0 8

/-- `zext_16` of a byte (R50). -/
def zextByte (b : Byte) : Word := b.setWidth 16

/-- A flag in bit 0 of a port field, every other bit 0 (R50). -/
def flagWord (p : Bool) : Word := if p then 1#16 else 0#16

/-- The same function on every lane. -/
def Lanes.map {α β : Type} (f : α → β) (v : Lanes α) : Lanes β :=
  ⟨f v.l0, f v.l1, f v.l2, f v.l3, f v.l4, f v.l5, f v.l6, f v.l7⟩

/-- The decoder: `op` selects the command by the map of R51, and the command takes the fields R50 lists for it; every
other field and bit is ignored. A reserved `op` (R52) is rejected by name. -/
def decode (c : Command) : Except DecodeError Instr :=
  match c.op.toNat with
  | 0x01 => .ok (.config (c.a.extractLsb' 0 2) (c.a.getLsbD 2))
  | 0x10 => .ok (.bta8 (c.a.getLsbD 0))
  | 0x11 => .ok (.bta16 (c.a.getLsbD 0))
  | 0x12 => .ok (.atb8 (lowByte c.a))
  | 0x13 => .ok (.atb16 c.a)
  | 0x14 => .ok (.scale c.a)
  | 0x15 => .ok (.hapos c.a)
  | 0x16 => .ok (.haneg c.a)
  | 0x17 => .ok (.norm c.a c.b)
  | 0x18 => .ok (.col8 c.vlen (c.v.map lowByte))
  | 0x19 => .ok (.col16 c.vlen c.v)
  | 0x21 => .ok .build20
  | 0x22 => .ok .build7
  | 0x23 => .ok .probe
  | 0x30 => .ok .handshake
  | 0x40 => .ok .update
  | 0x41 => .ok (.haptic c.vlen (lowByte c.v.l0) (lowByte c.v.l1) (lowByte c.v.l2) (lowByte c.v.l3))
  | 0x42 => .ok (.ackdec c.vlen (lowByte c.v.l0))
  | _ => .error (.reservedOp c.op)

/-- Eight lanes of zeros. -/
def Lanes.zero : Lanes Word := ⟨0#16, 0#16, 0#16, 0#16, 0#16, 0#16, 0#16, 0#16⟩

/-- A command with the given operation code and every other field 0. -/
def Command.ofOp (op : Byte) : Command := { op := op, a := 0#16, b := 0#16, v := Lanes.zero, vlen := 0#4 }

/-- The encoder: the operation code of R51 and the operand fields of R50, every ignored bit 0. -/
def encode : Instr → Command
  | .config m n => { Command.ofOp 0x01#8 with a := (BitVec.ofBool n ++ m).setWidth 16 }
  | .bta8 p => { Command.ofOp 0x10#8 with a := flagWord p }
  | .bta16 p => { Command.ofOp 0x11#8 with a := flagWord p }
  | .atb8 v => { Command.ofOp 0x12#8 with a := zextByte v }
  | .atb16 v => { Command.ofOp 0x13#8 with a := v }
  | .scale x => { Command.ofOp 0x14#8 with a := x }
  | .hapos x => { Command.ofOp 0x15#8 with a := x }
  | .haneg x => { Command.ofOp 0x16#8 with a := x }
  | .norm x y => { Command.ofOp 0x17#8 with a := x, b := y }
  | .col8 vlen v => { Command.ofOp 0x18#8 with v := v.map zextByte, vlen := vlen }
  | .col16 vlen v => { Command.ofOp 0x19#8 with v := v, vlen := vlen }
  | .build20 => Command.ofOp 0x21#8
  | .build7 => Command.ofOp 0x22#8
  | .probe => Command.ofOp 0x23#8
  | .handshake => Command.ofOp 0x30#8
  | .update => Command.ofOp 0x40#8
  | .haptic vlen r0 r1 r2 r3 =>
    { Command.ofOp 0x41#8 with
      v := { Lanes.zero with l0 := zextByte r0, l1 := zextByte r1, l2 := zextByte r2, l3 := zextByte r3 }
      vlen := vlen }
  | .ackdec vlen r0 => { Command.ofOp 0x42#8 with v := { Lanes.zero with l0 := zextByte r0 }, vlen := vlen }

/-- The port as one number, the fields of R49 in their order from bit 0 up: `op` in bits 7..0, `a` in 23..8, `b` in
39..24, lane i of `v` in the 16 bits from 40 + 16 i, `vlen` in 171..168. DESIGN CHOICE (log 8): R49 names the fields
and their widths, and no layout. -/
def Command.toBits (c : Command) : BitVec 172 :=
  c.vlen ++ c.v.l7 ++ c.v.l6 ++ c.v.l5 ++ c.v.l4 ++ c.v.l3 ++ c.v.l2 ++ c.v.l1 ++ c.v.l0 ++ c.b ++ c.a ++ c.op

/-- The port fields of such a number (log 8). -/
def Command.ofBits (w : BitVec 172) : Command where
  op := w.extractLsb' 0 8
  a := w.extractLsb' 8 16
  b := w.extractLsb' 24 16
  v := ⟨w.extractLsb' 40 16, w.extractLsb' 56 16, w.extractLsb' 72 16, w.extractLsb' 88 16,
        w.extractLsb' 104 16, w.extractLsb' 120 16, w.extractLsb' 136 16, w.extractLsb' 152 16⟩
  vlen := w.extractLsb' 168 4

/-- The port value whose low `nbits` bits are those of `w` and whose other bits are 0 (log 8). -/
def commandOfTableWord (nbits w : Nat) : Command := Command.ofBits (BitVec.ofNat 172 (w % 2 ^ nbits))

/-- The instruction the decoder reads from the `nbits` bits `w` of an opcode-table row, every other bit 0. -/
def decodeTableWord (nbits w : Nat) : Option Instr :=
  match decode (commandOfTableWord nbits w) with
  | .ok i => some i
  | .error _ => none

end Sys2Proof
end

