-- ==== Sys2Proof/Machine/Operands.lean ====
section
/-! DEFINITION. The arithmetic primitives (00_scope.md R11), the result forms (30_encoding.md R50), and the byte
forms of the frame and response registers (20_memory.md R35, 10_state.md R28, R29). -/

namespace Sys2Proof.Machine

/-- `I16_MAX` (00_scope.md R9). -/
def i16Max : Word := 0x7FFF#16

/-- `I16_MIN` (00_scope.md R9). -/
def i16Min : Word := 0x8000#16

/-- `sat16`: the clamp to `I16_MIN..I16_MAX` (R11). -/
def sat16 (n : Int) : Word :=
  if n < -32768 then i16Min else if n > 32767 then i16Max else BitVec.ofInt 16 n

/-- `a +sat b` (R11). -/
def addSat (a b : Word) : Word := sat16 (a.toInt + b.toInt)

/-- `a −sat b` (R11). -/
def subSat (a b : Word) : Word := sat16 (a.toInt - b.toInt)

/-- `a ×sat b` (R11). -/
def mulSat (a b : Word) : Word := sat16 (a.toInt * b.toInt)

/-- `a div b`: integer division truncated toward zero (R11). -/
def divTrunc (a b : Int) : Int := a.tdiv b

/-- `a >>a k`: `floor(a / 2^k)` (R11); division by a positive number rounds down here. -/
def asr (a : Int) (k : Nat) : Int := a / 2 ^ k

/-- `neg(a)`: `0 − a` as an integer, which R11 says always fits where it is used. -/
def negI16 (a : Word) : Word := BitVec.ofInt 16 (0 - a.toInt)

/-- `midpoint` of a value type with the given bounds (40_value_codec.md R60). -/
def midpoint (lo hi : Int) : Int := divTrunc (hi + lo) 2

/-- The lanes in order, lane 0 first (30_encoding.md R49). -/
def lanesList {α : Type} (v : Lanes α) : List α := [v.l0, v.l1, v.l2, v.l3, v.l4, v.l5, v.l6, v.l7]

/-- The frame's 20 bytes in order, byte 0 first (20_memory.md R35, 30_encoding.md R54). -/
def frameBytes (f : Frame) : List Byte :=
  [f.magic, f.buttons1, f.buttons2, f.rightX, f.rightY, f.leftX, f.leftY,
   f.pRight, f.pLeft, f.pUp, f.pDown, f.pTriangle, f.pCircle, f.pCross, f.pSquare, f.pL1, f.pR1, f.pL2, f.pR2,
   f.mode]

/-- The response register filled from the bytes received, 0 beyond them (10_state.md R29). -/
def rxBufOf (l : List Byte) : RxBuf := ⟨l.getD 0 0#8, l.getD 1 0#8, l.getD 2 0#8, l.getD 3 0#8⟩

/-- `rx_len` for the bytes received; a read of `RX_MAX` bytes never gives more than 4 (10_state.md R29). -/
def rxLenOf (l : List Byte) : Fin 5 := ⟨min l.length 4, by omega⟩

/-- The bytes an answer delivers; none after a timeout or an error (20_memory.md R40, 43_update_haptic.md R98). -/
def receivedBytes : RxResult → List Byte
  | .bytes l => l
  | .timeout => []
  | .ioErr => []

/-- An answer to `RxRead(n)` holds at most `n` bytes (20_memory.md R40). A decided answer that is longer gives its
first `n` bytes (DESIGN CHOICE, log 3). -/
def clipRead (n : Nat) : RxResult → RxResult
  | .bytes l => .bytes (l.take n)
  | .timeout => .timeout
  | .ioErr => .ioErr

/-- An answer to `TxWrite` of `len` bytes delivers a prefix, so at most `len` bytes (20_memory.md R39; log 4). -/
def clipWrite (len : Nat) : TxResult → TxResult
  | .ok => .ok
  | .ioErr sent => .ioErr (min sent len)

end Sys2Proof.Machine
end

