-- ==== Sys2Proof/Machine/Ops.lean ====
section
/-! DEFINITION. The named operations over the state: register writes, the transport and rumble primitives
(20_memory.md R39, R40; 43_update_haptic.md R95), raising, reporting and the fatal error (60_exceptions.md R104), the
common checks of every command (R107), reset (70_reset_and_hazards.md R122), and taking the host's next action. -/

namespace Sys2Proof.Machine

/-- What a step answers. -/
abbrev StepResult := Host.Outcome State Fault Refusal

/-- `last_err <- e` (10_state.md R30). -/
def State.setErr (e : ErrCode) (s : State) : State := { s with lastErr := e }

/-- `res <- w` (10_state.md R26). -/
def State.putRes (w : Word) (s : State) : State := { s with res := w }

/-- `(res, res2) <- (w, w2)` (10_state.md R26). -/
def State.putResPair (w w2 : Word) (s : State) : State := { s with res := w, res2 := w2 }

/-- `tx_frame[0..19] <- f; tx_len <- n` (10_state.md R28). -/
def State.putFrame (f : Frame) (n : FrameLen) (s : State) : State := { s with txFrame := f, txLen := n }

/-- `rx_len <- length(l); rx_buf <- l padded with 0 to 4 bytes` (10_state.md R29). -/
def State.putResponse (l : List Byte) (s : State) : State := { s with rxBuf := rxBufOf l, rxLen := rxLenOf l }

/-- `rumble_cmd <- c` (10_state.md R27). -/
def State.putRumble (c : RumbleCmd) (s : State) : State := { s with rumbleCmd := c }

/-- `ack_fail <- b` (10_state.md R31). -/
def State.putAck (b : Bool) (s : State) : State := { s with ackFail := b }

/-- `cfg_tm <- tm; cfg_norm <- n` (10_state.md R19, R20). -/
def State.putConfig (tm : TriggerMode) (n : Bool) (s : State) : State := { s with cfgTm := tm, cfgNorm := n }

/-- `hs_state <- h` (10_state.md R21). -/
def State.enter (h : HsState) (s : State) : State := { s with hsState := h }

/-- `hs_verdict <- m` (10_state.md R22). -/
def State.putVerdict (m : CommMode) (s : State) : State := { s with hsVerdict := m }

/-- `comm_mode <- m` (10_state.md R23). -/
def State.putMode (m : CommMode) (s : State) : State := { s with commMode := m }

/-- The host drives other values on the snapshot port (10_state.md R24); no register changes (42_handshake_fsm.md
R89). -/
def State.drive (p : Snapshot) (s : State) : State := { s with snap := p }

/-- An interaction happened (log 10). -/
def State.record (e : Interaction) (s : State) : State := { s with trace := s.trace ++ [e] }

/-- The device's answer to the next read, before the bound of the read applies (20_memory.md R41; log 3). -/
def State.nextRead (s : State) : RxResult :=
  match s.reads with
  | r :: _ => r
  | [] => Config.readOracle s.drawn

/-- The state after that answer is taken. -/
def State.dropRead (s : State) : State :=
  match s.reads with
  | _ :: rs => { s with reads := rs }
  | [] => { s with drawn := s.drawn + 1 }

/-- The device's answer to the next write, before the length of the write bounds it (20_memory.md R41; log 3). -/
def State.nextWrite (s : State) : TxResult :=
  match s.writes with
  | w :: _ => w
  | [] => Config.writeOracle s.drawn

/-- The state after that answer is taken. -/
def State.dropWrite (s : State) : State :=
  match s.writes with
  | _ :: ws => { s with writes := ws }
  | [] => { s with drawn := s.drawn + 1 }

/-- The host's next action (60_exceptions.md R114; log 2). -/
def State.nextAction (s : State) : HostAction :=
  match s.host with
  | a :: _ => a
  | [] => Config.hostOracle s.drawn

/-- The state after that action is taken up. -/
def State.dropAction (s : State) : State :=
  match s.host with
  | _ :: as => { s with host := as }
  | [] => { s with drawn := s.drawn + 1 }

/-- The answer of `RxRead(n)` (20_memory.md R40). -/
def State.rxAnswer (n : Nat) (s : State) : RxResult := clipRead n s.nextRead

/-- The state after `RxRead(n)`: the answer is used up and recorded (20_memory.md R40, R43). -/
def State.rxRead (n : Nat) (s : State) : State := s.dropRead.record (.rxRead n (s.rxAnswer n))

/-- The answer of `TxWrite(bytes)` (20_memory.md R39). -/
def State.txAnswer (bytes : List Byte) (s : State) : TxResult := clipWrite bytes.length s.nextWrite

/-- The state after `TxWrite(bytes)`: the answer is used up and recorded (20_memory.md R39, R43). -/
def State.txWrite (bytes : List Byte) (s : State) : State := s.dropWrite.record (.txWrite bytes (s.txAnswer bytes))

/-- `EmitRumble(cmd)` (43_update_haptic.md R95): the call's result is ignored, so nothing else changes. -/
def State.emitRumble (c : RumbleCmd) (s : State) : State :=
  match c with
  | .none => s
  | .stop => s.record (.setRumble 0#16 0#16 0#16)
  | .set low high durMs => s.record (.setRumble low high durMs)

/-- A refusal: no effect but `last_err <- e` (60_exceptions.md R104 item 1). -/
def refuse (e : ErrCode) (s : State) : StepResult := .next (s.setErr e)

/-- A command that completes: `last_err <- E_NONE` (60_exceptions.md R105). -/
def complete (s : State) : StepResult := .next (s.setErr .none)

/-- `fatal(e)`: `hs_state <- ABORTED; last_err <- e` (60_exceptions.md R104 item 3, R110). -/
def State.fatal (e : ErrCode) (s : State) : State := (s.enter .aborted).setErr e

/-- The common checks before a listed command's own rule, in order: `ABORTED`, then `busy` (60_exceptions.md R107;
check 2 of that rule, a reserved `op`, is `reservedOp`). -/
def whenAccepted (s : State) (body : StepResult) : StepResult :=
  if s.hsState = .aborted then refuse .aborted s
  else if s.hsState.busy then refuse .busy s
  else body

/-- A reserved `op` (30_encoding.md R52): `E_ABORTED` in `ABORTED`, else `E_ILLEGAL_OP`, busy or not
(60_exceptions.md R107). -/
def reservedOp (s : State) : StepResult :=
  if s.hsState = .aborted then refuse .aborted s else refuse .illegalOp s

/-- Reset, the only way out of `ABORTED` and of every other terminal state (70_reset_and_hazards.md R122, R123;
60_exceptions.md R111): the block's own state takes its reset values; the ports, the parameter and the world outside
stay as they are (log 14). -/
def State.sessionReset (s : State) : State :=
  { State.reset with
    snap := s.snap
    probePolicy := s.probePolicy
    host := s.host
    reads := s.reads
    writes := s.writes
    drawn := s.drawn
    trace := s.trace }

end Sys2Proof.Machine
end

