-- ==== Sys2Proof/Machine/Codec.lean ====
section
/-! DEFINITION. The value codec: its pure functions and its ten commands (40_value_codec.md). -/

namespace Sys2Proof.Machine

/-- `bta8` (R61). -/
def bta8 (p : Bool) : Byte := if p then 0xFF#8 else 0x00#8

/-- `bta16` (R62). -/
def bta16 (p : Bool) : Word := if p then i16Max else i16Min

/-- `atb8`: above the `u8` midpoint (R60, R63). -/
def atb8 (v : Byte) : Bool := decide ((v.toNat : Int) > midpoint 0 255)

/-- `atb16`: above the `i16` midpoint (R60, R64). -/
def atb16 (v : Word) : Bool := decide (v.toInt > midpoint (-32768) 32767)

/-- `scale`: the arithmetic shift by 8, then the centre 0x80 (R65). -/
def scaleForWire (x : Word) : Byte := BitVec.ofInt 8 (asr x.toInt 8 + 0x80)

/-- `hapos` (R66). -/
def halfAxisPos (x : Word) : Word :=
  if x = i16Max then i16Max
  else if x.toInt ≤ 0 then i16Min
  else mulSat (addSat x (BitVec.ofInt 16 (divTrunc i16Min.toInt 2))) 2#16

/-- `haneg` (R67). -/
def halfAxisNeg (x : Word) : Word := halfAxisPos (negI16 (addSat x 1#16))

/-- `norm1` (R68), the linear model (`NORM_MODEL`, 00_scope.md R8; log 11). -/
def norm1 (en : Bool) (c : Word) : Word := if en then sat16 (c.toInt + divTrunc c.toInt 10) else c

/-- The bit at place `k`, as a number: `(if b then 1 else 0) << k` (R69). -/
def placed (b : Bool) (k : Nat) : Nat := if b then 2 ^ k else 0

/-- The sum of R69: lane i goes to bit 7 − i. -/
def collapseBits (v : Lanes Bool) : Byte :=
  BitVec.ofNat 8 (placed v.l0 7 + placed v.l1 6 + placed v.l2 5 + placed v.l3 4 +
    placed v.l4 3 + placed v.l5 2 + placed v.l6 1 + placed v.l7 0)

/-- `collapse8` of eight lanes (R69). -/
def collapse8 (v : Lanes Byte) : Byte := collapseBits (v.map atb8)

/-- `collapse16` of eight lanes (R70). -/
def collapse16 (v : Lanes Word) : Byte := collapseBits (v.map atb16)

/-- `BTA8` (R61). -/
def execBta8 (p : Bool) (s : State) : StepResult := whenAccepted s (complete (s.putRes (zextByte (bta8 p))))

/-- `BTA16` (R62). -/
def execBta16 (p : Bool) (s : State) : StepResult := whenAccepted s (complete (s.putRes (bta16 p)))

/-- `ATB8` (R63). -/
def execAtb8 (v : Byte) (s : State) : StepResult := whenAccepted s (complete (s.putRes (flagWord (atb8 v))))

/-- `ATB16` (R64). -/
def execAtb16 (v : Word) (s : State) : StepResult := whenAccepted s (complete (s.putRes (flagWord (atb16 v))))

/-- `SCALE` (R65). -/
def execScale (x : Word) (s : State) : StepResult := whenAccepted s (complete (s.putRes (zextByte (scaleForWire x))))

/-- `HAPOS` (R66). -/
def execHapos (x : Word) (s : State) : StepResult := whenAccepted s (complete (s.putRes (halfAxisPos x)))

/-- `HANEG` (R67). -/
def execHaneg (x : Word) (s : State) : StepResult := whenAccepted s (complete (s.putRes (halfAxisNeg x)))

/-- `NORM` (R68). -/
def execNorm (x y : Word) (s : State) : StepResult :=
  whenAccepted s (complete (s.putResPair (norm1 s.cfgNorm x) (norm1 s.cfgNorm y)))

/-- `COL8` (R69): refused with `E_INVALID_INPUT_LENGTH` unless `vlen` is 8. -/
def execCol8 (vlen : BitVec 4) (v : Lanes Byte) (s : State) : StepResult :=
  whenAccepted s
    (if vlen = 8#4 then complete (s.putRes (zextByte (collapse8 v))) else refuse .invalidInputLength s)

/-- `COL16` (R70): refused with `E_INVALID_INPUT_LENGTH` unless `vlen` is 8. -/
def execCol16 (vlen : BitVec 4) (v : Lanes Word) (s : State) : StepResult :=
  whenAccepted s
    (if vlen = 8#4 then complete (s.putRes (zextByte (collapse16 v))) else refuse .invalidInputLength s)

end Sys2Proof.Machine
end

