-- ==== Sys2Proof/Machine/Builder.lean ====
section
/-! DEFINITION. The packet builder: the emulated fields, `frame20`, the probe frame and the three builder commands
(41_packet_builder.md, 30_encoding.md R54 to R57). -/

namespace Sys2Proof.Machine

/-- The emulated values `e.F`, one for each console-side field, and the source of the right stick's Y (R72, R73). -/
structure Emulated where
  up : Word
  down : Word
  left : Word
  right : Word
  start : Word
  select : Word
  l3 : Word
  r3 : Word
  circle : Word
  triangle : Word
  l1 : Word
  r1 : Word
  l2 : Word
  r2 : Word
  cross : Word
  square : Word
  rySrc : Word
  deriving DecidableEq, Repr

/-- `e.L2` (R73). -/
def emulatedL2 (p : Snapshot) : TriggerMode → Word
  | .normal => halfAxisPos p.leftTrigger
  | .rightStickAsTrigger => halfAxisNeg p.rightY
  | .crossSquareAsTrigger => bta16 p.a

/-- `e.R2` (R73). -/
def emulatedR2 (p : Snapshot) : TriggerMode → Word
  | .normal => halfAxisPos p.rightTrigger
  | .rightStickAsTrigger => halfAxisPos p.rightY
  | .crossSquareAsTrigger => bta16 p.x

/-- `e.Cross` (R73). -/
def emulatedCross (p : Snapshot) : TriggerMode → Word
  | .normal => bta16 p.a
  | .rightStickAsTrigger => bta16 p.a
  | .crossSquareAsTrigger => halfAxisPos p.rightTrigger

/-- `e.Square` (R73). -/
def emulatedSquare (p : Snapshot) : TriggerMode → Word
  | .normal => bta16 p.x
  | .rightStickAsTrigger => bta16 p.x
  | .crossSquareAsTrigger => halfAxisPos p.leftTrigger

/-- `ry_src` (R73). -/
def rightYSource (p : Snapshot) : TriggerMode → Word
  | .normal => p.rightY
  | .rightStickAsTrigger => subSat p.leftTrigger p.rightTrigger
  | .crossSquareAsTrigger => p.rightY

/-- The emulated fields of a snapshot under a trigger mode (R72, R73). Circle from B and Triangle from Y is the
spec's own pairing (92_eei_decisions.md D5; log 11). -/
def emulate (p : Snapshot) (tm : TriggerMode) : Emulated where
  up := bta16 p.dpadUp
  down := bta16 p.dpadDown
  left := bta16 p.dpadLeft
  right := bta16 p.dpadRight
  start := bta16 p.start
  select := bta16 p.back
  l3 := bta16 p.l3
  r3 := bta16 p.r3
  circle := bta16 p.b
  triangle := bta16 p.y
  l1 := bta16 p.l1
  r1 := bta16 p.r1
  l2 := emulatedL2 p tm
  r2 := emulatedR2 p tm
  cross := emulatedCross p tm
  square := emulatedSquare p tm
  rySrc := rightYSource p tm

/-- The lanes of `buttons1`, lane 0 (bit 7) first (R75, 30_encoding.md R55; `BUTTON_BIT_ORDER`, log 11). -/
def buttons1Lanes (e : Emulated) : Lanes Word := ⟨e.left, e.down, e.right, e.up, e.start, e.r3, e.l3, e.select⟩

/-- The lanes of `buttons2`, lane 0 (bit 7) first (R75, 30_encoding.md R55; `BUTTON_BIT_ORDER`, log 11). -/
def buttons2Lanes (e : Emulated) : Lanes Word := ⟨e.square, e.cross, e.circle, e.triangle, e.r1, e.l1, e.r2, e.l2⟩

/-- A button byte: the inverted collapse, so a pressed button's bit is 0 (R75). -/
def buttonByte (v : Lanes Word) : Byte := ~~~ collapse16 v

/-- `frame20(snap, tm, norm)` (R77), from R72 to R76 and 30_encoding.md R57. -/
def frame20 (p : Snapshot) (tm : TriggerMode) (norm : Bool) : Frame where
  magic := Config.magic
  buttons1 := buttonByte (buttons1Lanes (emulate p tm))
  buttons2 := buttonByte (buttons2Lanes (emulate p tm))
  rightX := scaleForWire (norm1 norm p.rightX)
  rightY := scaleForWire (norm1 norm (emulate p tm).rySrc)
  leftX := scaleForWire (norm1 norm p.leftX)
  leftY := scaleForWire (norm1 norm p.leftY)
  pRight := scaleForWire (emulate p tm).right
  pLeft := scaleForWire (emulate p tm).left
  pUp := scaleForWire (emulate p tm).up
  pDown := scaleForWire (emulate p tm).down
  pTriangle := scaleForWire (emulate p tm).triangle
  pCircle := scaleForWire (emulate p tm).circle
  pCross := scaleForWire (emulate p tm).cross
  pSquare := scaleForWire (emulate p tm).square
  pL1 := scaleForWire (emulate p tm).l1
  pR1 := scaleForWire (emulate p tm).r1
  pL2 := scaleForWire (emulate p tm).l2
  pR2 := scaleForWire (emulate p tm).r2
  mode := if p.guide then Config.modeGuide else Config.modeIdle

/-- `NEUTRAL20`, the probe frame, a constant of the block (R80). -/
def neutral20 : Frame :=
  ⟨0x5A#8, 0xFF#8, 0xFF#8, 0x80#8, 0x80#8, 0x80#8, 0x80#8, 0x00#8, 0x00#8, 0x00#8, 0x00#8, 0x00#8, 0x00#8, 0x00#8,
   0x00#8, 0x00#8, 0x00#8, 0x00#8, 0x00#8, 0x55#8⟩

/-- The packet of a frame register: its first `tx_len` bytes (10_state.md R28; 70_reset_and_hazards.md R127). -/
def packet (f : Frame) (n : FrameLen) : List Byte := (frameBytes f).take n.toNat

/-- `BUILD20` (R78). -/
def execBuild20 (s : State) : StepResult :=
  whenAccepted s (complete (s.putFrame (frame20 s.snap s.cfgTm s.cfgNorm) .extended))

/-- `BUILD7` (R79): the 20-byte image with the 7-byte length. -/
def execBuild7 (s : State) : StepResult :=
  whenAccepted s (complete (s.putFrame (frame20 s.snap s.cfgTm s.cfgNorm) .minimal))

/-- `PROBE` (R80). -/
def execProbe (s : State) : StepResult := whenAccepted s (complete (s.putFrame neutral20 .extended))

end Sys2Proof.Machine
end

