-- ==== Sys2Proof/Machine/Session.lean ====
section
/-! DEFINITION. The session: `CONFIG`, `HANDSHAKE` and the autonomous steps of the handshake FSM
(42_handshake_fsm.md). -/

namespace Sys2Proof.Machine

/-- `CONFIG` (R82): locked before the code is looked at (60_exceptions.md R108). -/
def execConfig (m : BitVec 2) (n : Bool) (s : State) : StepResult :=
  whenAccepted s
    (if s.hsState ≠ .start then refuse .configLocked s
     else match TriggerMode.ofCode m with
      | none => refuse .invalidConfig s
      | some tm => complete (s.putConfig tm n))

/-- `HANDSHAKE` (R83): it only starts the FSM. -/
def execHandshake (s : State) : StepResult :=
  whenAccepted s
    (if s.hsState.negotiated then refuse .alreadyNegotiated s else complete (s.enter .flushPre))

/-- `classify` (R86): only the first byte is looked at, the magic byte before the error character. -/
def classify : List Byte → CommMode
  | [] => .undetermined
  | b :: _ =>
    if b = Config.magic then .extended
    else if b = Config.minimalErrChar then .minimal
    else .undetermined

/-- `tx_frame[0..19] <- NEUTRAL20; tx_len <- 20` (R84). -/
def loadProbe (s : State) : State := s.putFrame neutral20 .extended

/-- The probe's part of the `FLUSH_PRE` step, after the read that ends the flush (R84). -/
def sendProbe (s : State) : State :=
  match (loadProbe s).txAnswer (frameBytes neutral20) with
  | .ok => ((loadProbe s).txWrite (frameBytes neutral20)).enter .probed
  | .ioErr _ =>
    match s.probePolicy with
    | .abort => ((loadProbe s).txWrite (frameBytes neutral20)).fatal .fatalIo
    | .unknown => (((loadProbe s).txWrite (frameBytes neutral20)).putVerdict .undetermined).enter .flushPost

/-- The step in `FLUSH_PRE` (R84). -/
def stepFlushPre (s : State) : State :=
  match s.rxAnswer Config.flushReadMax with
  | .bytes (_ :: _) => s.rxRead Config.flushReadMax
  | .ioErr => (s.rxRead Config.flushReadMax).fatal .fatalIo
  | .bytes [] => sendProbe (s.rxRead Config.flushReadMax)
  | .timeout => sendProbe (s.rxRead Config.flushReadMax)

/-- The probe's response taken in: `rx_buf`, `rx_len`, the verdict, and on to the second flush (R85). -/
def takeProbeResponse (l : List Byte) (verdict : CommMode) (s : State) : State :=
  ((s.putResponse l).putVerdict verdict).enter .flushPost

/-- The step in `PROBED` (R85). -/
def stepProbed (s : State) : State :=
  match s.rxAnswer Config.rxMax with
  | .ioErr =>
    match s.probePolicy with
    | .abort => (s.rxRead Config.rxMax).fatal .fatalIo
    | .unknown => takeProbeResponse [] .undetermined (s.rxRead Config.rxMax)
  | .timeout => takeProbeResponse [] .undetermined (s.rxRead Config.rxMax)
  | .bytes l => takeProbeResponse l (classify l) (s.rxRead Config.rxMax)

/-- The terminal state of a verdict (R87). -/
def terminalOf : CommMode → HsState
  | .minimal => .minimal
  | .extended => .extended
  | .undetermined => .unknown

/-- The error a verdict leaves (R87). -/
def verdictErr : CommMode → ErrCode
  | .minimal => .none
  | .extended => .none
  | .undetermined => .unrecognizedResponse

/-- The end of the second flush: the mode is set, the terminal state entered (R87). -/
def settle (s : State) : State :=
  ((s.putMode s.hsVerdict).enter (terminalOf s.hsVerdict)).setErr (verdictErr s.hsVerdict)

/-- The step in `FLUSH_POST` (R87). -/
def stepFlushPost (s : State) : State :=
  match s.rxAnswer Config.flushReadMax with
  | .bytes (_ :: _) => s.rxRead Config.flushReadMax
  | .ioErr => (s.rxRead Config.flushReadMax).fatal .fatalIo
  | .bytes [] => settle (s.rxRead Config.flushReadMax)
  | .timeout => settle (s.rxRead Config.flushReadMax)

/-- What the block does when the host leaves it alone: an FSM step exactly when it is busy (R91), nothing otherwise. -/
def autonomous (s : State) : State :=
  match s.hsState with
  | .flushPre => stepFlushPre s
  | .probed => stepProbed s
  | .flushPost => stepFlushPost s
  | .start => s
  | .minimal => s
  | .extended => s
  | .unknown => s
  | .aborted => s

end Sys2Proof.Machine
end

