-- ==== Sys2Proof/Machine/Update.lean ====
section
/-! DEFINITION. The update transaction, the haptic feedback decoder and the Minimal acknowledgement decoder
(43_update_haptic.md). -/

namespace Sys2Proof.Machine

/-- `rescale` (R92; `RUMBLE_RESCALE`, log 11). -/
def rescale (v : Byte) : Word := BitVec.ofNat 16 (v.toNat * 257)

/-- `haptic` (R93): byte 1 is the small motor, byte 2 the large one; shorter than 3 bytes is no command. -/
def hapticDecode : List Byte → RumbleCmd
  | _ :: small :: large :: _ =>
    if small = 0#8 ∧ large = 0#8 then .stop
    else .set (rescale large) (rescale small) Config.rumbleDurationMs
  | [_, _] => .none
  | [_] => .none
  | [] => .none

/-- `ackfail` (R94). -/
def ackFailed : List Byte → Bool
  | [] => false
  | b :: _ => b == Config.minimalErrChar

/-- The frame of an update built into the frame register (R96). -/
def buildFor (n : FrameLen) (s : State) : State := s.putFrame (frame20 s.snap s.cfgTm s.cfgNorm) n

/-- The packet an update writes (R96). -/
def updatePacket (n : FrameLen) (s : State) : List Byte := packet (frame20 s.snap s.cfgTm s.cfgNorm) n

/-- The update with its frame written (R96). -/
def afterWrite (n : FrameLen) (s : State) : State := (buildFor n s).txWrite (updatePacket n s)

/-- The answer to the update's write (R96). -/
def updateWritten (n : FrameLen) (s : State) : TxResult := (buildFor n s).txAnswer (updatePacket n s)

/-- The answer to the update's read, which follows the write whatever its answer (R96, R98; 20_memory.md R45). -/
def updateAnswer (n : FrameLen) (s : State) : RxResult := (afterWrite n s).rxAnswer Config.rxMax

/-- The bytes the update received (R96, R98). -/
def updateBytes (n : FrameLen) (s : State) : List Byte := receivedBytes (updateAnswer n s)

/-- The update up to its response register (R96). -/
def exchange (n : FrameLen) (s : State) : State :=
  ((afterWrite n s).rxRead Config.rxMax).putResponse (updateBytes n s)

/-- The error an update reports: the write's before the read's (R96, R98; 60_exceptions.md R108). -/
def updateErr (w : TxResult) (r : RxResult) : ErrCode :=
  match w, r with
  | .ioErr _, _ => .txIo
  | .ok, .ioErr => .rxIo
  | .ok, .timeout => .none
  | .ok, .bytes _ => .none

/-- The error of this update. -/
def updateOutcome (n : FrameLen) (s : State) : ErrCode := updateErr (updateWritten n s) (updateAnswer n s)

/-- An update in the Minimal dialect (R96). -/
def updateMinimal (s : State) : State :=
  ((exchange .minimal s).putAck (ackFailed (updateBytes .minimal s))).setErr (updateOutcome .minimal s)

/-- An update in the Extended dialect (R96): the rumble command is stored and emitted (R95). -/
def updateExtended (s : State) : State :=
  (((exchange .extended s).putRumble (hapticDecode (updateBytes .extended s))).emitRumble
    (hapticDecode (updateBytes .extended s))).setErr (updateOutcome .extended s)

/-- `UPDATE` (R96, R97). -/
def execUpdate (s : State) : StepResult :=
  whenAccepted s
    (if s.hsState = .start then refuse .notNegotiated s
     else match s.commMode with
      | .undetermined => complete s
      | .minimal => .next (updateMinimal s)
      | .extended => .next (updateExtended s))

/-- `HAPTIC` (R99): refused with `E_INVALID_INPUT_LENGTH` when `vlen` is above 4; nothing is emitted. -/
def execHaptic (vlen : BitVec 4) (r0 r1 r2 r3 : Byte) (s : State) : StepResult :=
  whenAccepted s
    (if vlen.toNat > 4 then refuse .invalidInputLength s
     else complete (s.putRumble (hapticDecode ([r0, r1, r2, r3].take vlen.toNat))))

/-- `ACKDEC` (R100): refused with `E_INVALID_INPUT_LENGTH` when `vlen` is above 4. Only byte 0 counts, so only lane 0
is an operand (30_encoding.md R50). -/
def execAckdec (vlen : BitVec 4) (r0 : Byte) (s : State) : StepResult :=
  whenAccepted s
    (if vlen.toNat > 4 then refuse .invalidInputLength s
     else complete (s.putRes (flagWord (ackFailed ([r0].take vlen.toNat)))))

end Sys2Proof.Machine
end

