-- ==== Sys2Proof/Machine/Dispatch.lean ====
section
/-! DEFINITION. One arm for each command of the opcode table (30_encoding.md R51). -/

namespace Sys2Proof.Machine

def exec (i : Instr) (s : State) : Host.Outcome State Fault Refusal :=
  match i with
  | .config m n => Sys2Proof.Machine.execConfig m n s
  | .bta8 p => Sys2Proof.Machine.execBta8 p s
  | .bta16 p => Sys2Proof.Machine.execBta16 p s
  | .atb8 v => Sys2Proof.Machine.execAtb8 v s
  | .atb16 v => Sys2Proof.Machine.execAtb16 v s
  | .scale x => Sys2Proof.Machine.execScale x s
  | .hapos x => Sys2Proof.Machine.execHapos x s
  | .haneg x => Sys2Proof.Machine.execHaneg x s
  | .norm x y => Sys2Proof.Machine.execNorm x y s
  | .col8 vlen v => Sys2Proof.Machine.execCol8 vlen v s
  | .col16 vlen v => Sys2Proof.Machine.execCol16 vlen v s
  | .build20 => Sys2Proof.Machine.execBuild20 s
  | .build7 => Sys2Proof.Machine.execBuild7 s
  | .probe => Sys2Proof.Machine.execProbe s
  | .handshake => Sys2Proof.Machine.execHandshake s
  | .update => Sys2Proof.Machine.execUpdate s
  | .haptic vlen r0 r1 r2 r3 => Sys2Proof.Machine.execHaptic vlen r0 r1 r2 r3 s
  | .ackdec vlen r0 => Sys2Proof.Machine.execAckdec vlen r0 s

end Sys2Proof.Machine
end

