-- ==== Sys2Proof/Machine/Schedule.lean ====
section
/-! DEFINITION. Carrying out one host action: a command is decoded and run, a snapshot is driven, the block is reset, or
it is left alone (60_exceptions.md R107, R114; 42_handshake_fsm.md R91; 70_reset_and_hazards.md R122; log 2). -/

namespace Sys2Proof.Machine

/-- A command on the port: decoded and run, or refused as a reserved `op` (60_exceptions.md R107). -/
def issue (c : Command) (s : State) : StepResult :=
  match decode c with
  | .ok i => exec i s
  | .error _ => reservedOp s

/-- One host action carried out. -/
def perform (a : HostAction) (s : State) : StepResult :=
  match a with
  | .command c => issue c s
  | .snapshot p => .next (s.drive p)
  | .reset => .next s.sessionReset
  | .idle => .next (autonomous s)

end Sys2Proof.Machine
end

