-- ==== Sys2Proof/Machine/Step.lean ====
section
/-! DEFINITION. One step of the machine (log 2), and a command placed as the host's next action (log 1). -/

namespace Sys2Proof.Machine

/-- One step: the host's next action is taken up and carried out (60_exceptions.md R114). -/
def step (s : State) : Host.Outcome State Fault Refusal := perform s.nextAction s.dropAction

/-- `s` with the command whose port bits are `w` as the host's very next action (log 1, log 8). -/
def State.withFetchWord (s : State) (nbits w : Nat) : State :=
  { s with host := .command (commandOfTableWord nbits w) :: s.host }

end Sys2Proof.Machine
end

