-- ==== Sys2Proof/WellFormed.lean ====
section
/-! DEFINITION. Which operand values of a listed command the spec calls illegal (30_encoding.md R52). Every operand
already has its width by its type. An illegal operand value is no illegal encoding: the command decodes, runs, and is
refused with the error code R52 names. -/

namespace Sys2Proof

/-- The operand values R52 admits: a trigger-mode code other than 3, eight lanes for a collapse, at most four response
bytes for a decoder. -/
def Instr.wellFormed : Instr → Bool
  | .config m _ => m != 3#2
  | .bta8 _ => true
  | .bta16 _ => true
  | .atb8 _ => true
  | .atb16 _ => true
  | .scale _ => true
  | .hapos _ => true
  | .haneg _ => true
  | .norm _ _ => true
  | .col8 vlen _ => vlen == 8#4
  | .col16 vlen _ => vlen == 8#4
  | .build20 => true
  | .build7 => true
  | .probe => true
  | .handshake => true
  | .update => true
  | .haptic vlen _ _ _ _ => vlen.toNat ≤ 4
  | .ackdec vlen _ => vlen.toNat ≤ 4

end Sys2Proof
end

