-- ==== Sys2Proof/Safety.lean ====
section
/-! DEFINITION. The terms claims use: when a listed command is accepted, what holds of every state of a session, the
invariant that every step keeps, and the duties the spec gives the host. -/

namespace Sys2Proof.Machine

/-- No common check refuses a listed command: `START` or a non-fault terminal state (60_exceptions.md R107). -/
abbrev State.Accepts (s : State) : Prop :=
  s.hsState = .start ∨ s.hsState = .minimal ∨ s.hsState = .extended ∨ s.hsState = .unknown

/-- The commands whose own rule checks nothing of the session (60_exceptions.md R107): codec, builder and stand-alone
decoder commands. -/
def pureCommand : Instr → Bool
  | .config _ _ => false
  | .bta8 _ => true
  | .bta16 _ => true
  | .atb8 _ => true
  | .atb16 _ => true
  | .scale _ => true
  | .hapos _ => true
  | .haneg _ => true
  | .norm _ _ => true
  | .col8 _ _ => true
  | .col16 _ _ => true
  | .build20 => true
  | .build7 => true
  | .probe => true
  | .handshake => false
  | .update => false
  | .haptic _ _ _ _ _ => true
  | .ackdec _ _ => true

/-- Two port values agree on the operation code and on every field and bit that the operation reads
(30_encoding.md R50). -/
def sameOperands (c d : Command) : Bool :=
  c.op == d.op &&
    match c.op.toNat with
    | 0x01 => c.a.extractLsb' 0 3 == d.a.extractLsb' 0 3
    | 0x10 | 0x11 => c.a.getLsbD 0 == d.a.getLsbD 0
    | 0x12 => lowByte c.a == lowByte d.a
    | 0x13 | 0x14 | 0x15 | 0x16 => c.a == d.a
    | 0x17 => c.a == d.a && c.b == d.b
    | 0x18 => c.vlen == d.vlen && (lanesList c.v).map lowByte == (lanesList d.v).map lowByte
    | 0x19 => c.vlen == d.vlen && lanesList c.v == lanesList d.v
    | 0x41 =>
      c.vlen == d.vlen &&
        (c.vlen.toNat > 4 ||
          ((lanesList c.v).map lowByte).take c.vlen.toNat == ((lanesList d.v).map lowByte).take c.vlen.toNat)
    | 0x42 =>
      c.vlen == d.vlen && (c.vlen.toNat == 0 || c.vlen.toNat > 4 || lowByte c.v.l0 == lowByte d.v.l0)
    | _ => true

/-- `comm_mode` is `Minimal` exactly in `MINIMAL` and `Extended` exactly in `EXTENDED` (10_state.md R23). -/
abbrev State.ModeMatches (s : State) : Prop :=
  (s.commMode = .minimal ↔ s.hsState = .minimal) ∧ (s.commMode = .extended ↔ s.hsState = .extended)

/-- `hs_verdict` is still `Undetermined` until the probe is answered, and is the mode once negotiated
(10_state.md R22; 42_handshake_fsm.md R84 to R87). -/
abbrev State.VerdictMatches (s : State) : Prop :=
  (s.hsState = .start ∨ s.hsState = .flushPre ∨ s.hsState = .probed → s.hsVerdict = .undetermined) ∧
    (s.hsState.negotiated = true → s.commMode = s.hsVerdict)

/-- A frame once written opens with the magic byte and ends in a mode byte (41_packet_builder.md R81 item 5). -/
abbrev State.FrameShaped (s : State) : Prop :=
  s.txLen = .empty ∨ (s.txFrame.magic = 0x5A#8 ∧ (s.txFrame.mode = 0xAA#8 ∨ s.txFrame.mode = 0x55#8))

/-- `tx_len` is 0 only before the first write (10_state.md R28): from the probe on it is not. -/
abbrev State.ProbeLoaded (s : State) : Prop :=
  s.hsState = .probed ∨ s.hsState = .flushPost ∨ s.hsState.negotiated = true → s.txLen ≠ .empty

/-- `rx_buf[i]` is 0 for every `i ≥ rx_len` (10_state.md R29). -/
abbrev State.ResponsePadded (s : State) : Prop :=
  (s.rxLen.val ≤ 0 → s.rxBuf.b0 = 0#8) ∧ (s.rxLen.val ≤ 1 → s.rxBuf.b1 = 0#8) ∧
    (s.rxLen.val ≤ 2 → s.rxBuf.b2 = 0#8) ∧ (s.rxLen.val ≤ 3 → s.rxBuf.b3 = 0#8)

/-- Every `Set` lasts 500 ms and has a motor on (43_update_haptic.md R101 item 4). -/
def RumbleCmd.shaped : RumbleCmd → Prop
  | .none => True
  | .stop => True
  | .set low high durMs => durMs = 500#16 ∧ (low ≠ 0#16 ∨ high ≠ 0#16)

/-- What holds of every state of a session, whatever the host and the device do. -/
structure State.Inv (s : State) : Prop where
  mode : s.ModeMatches
  verdict : s.VerdictMatches
  frame : s.FrameShaped
  probe : s.ProbeLoaded
  response : s.ResponsePadded
  rumble : s.rumbleCmd.shaped

/-- The clamp of `sat16` on integers (00_scope.md R11). -/
def clampI16 (n : Int) : Int := max (-32768) (min n 32767)

/-- The closed form of `hapos` (40_value_codec.md R66). -/
def haposClosed (x : Int) : Int := if x = 32767 then 32767 else if x ≤ 0 then -32768 else 2 * x - 32768

/-- The closed form of `haneg` (40_value_codec.md R67). -/
def hanegClosed (x : Int) : Int := if x = -32768 then 32767 else if x ≥ -1 then -32768 else -2 * x - 32770

/-- `norm1` on integers, the saturating add as a clamp (40_value_codec.md R68). -/
def normClosed (en : Bool) (x : Int) : Int := if en then clampI16 (x + x.tdiv 10) else x

/-- `scale` on integers: the quotient rounded down is the arithmetic shift by 8 (40_value_codec.md R65). -/
def wireByte (x : Int) : Byte := BitVec.ofInt 8 (x / 256 + 128)

/-- The pressure byte of a digital input (30_encoding.md R56). -/
def digitalByte (b : Bool) : Byte := if b then 0xFF#8 else 0x00#8

/-- The `set_rumble` calls a rumble command makes (43_update_haptic.md R95). -/
def rumbleCalls : RumbleCmd → List Interaction
  | .none => []
  | .stop => [.setRumble 0#16 0#16 0#16]
  | .set low high durMs => [.setRumble low high durMs]

/-- An input event of one frame, as the host's event queue gives it (60_exceptions.md R118). -/
inductive FrameEvent where
  /-- The tracked controller reported a button or axis change; the snapshot is now this one. -/
  | change (p : Snapshot)
  /-- Any other event. -/
  | other
  deriving DecidableEq, Repr

/-- Whether an event reports a button or axis change (60_exceptions.md R118). -/
def FrameEvent.isChange : FrameEvent → Bool
  | .change _ => true
  | .other => false

/-- Draining one event: a change drives the snapshot port (60_exceptions.md R114, R118 item 1). -/
def drainEvent : FrameEvent → List HostAction
  | .change p => [.snapshot p]
  | .other => []

/-- Whether the host issues the frame's one `UPDATE`: event-driven in every dialect, timer-driven in Extended only
(60_exceptions.md R118 items 2 to 4). -/
def updateDue (mode : CommMode) (events : List FrameEvent) : Bool := events.any FrameEvent.isChange || mode == .extended

/-- What a dutiful host does in one frame: it drains every buffered event, then issues at most one `UPDATE`
(60_exceptions.md R109, R115, R118; log 15). -/
def frameActions (mode : CommMode) (events : List FrameEvent) : List HostAction :=
  (events.map drainEvent).flatten ++ (if updateDue mode events then [.command (encode .update)] else [])

/-- What a host does to open a session, from reset on: it configures, negotiates, and lets the block run for `k` steps
(70_reset_and_hazards.md R124 items 3 to 5; log 15). -/
def bootActions (m : BitVec 2) (n : Bool) (k : Nat) : List HostAction :=
  [.reset, .command (encode (.config m n)), .command (encode .handshake)] ++ List.replicate k .idle

end Sys2Proof.Machine
end

