-- ==== Sys2Proof/Certificates/Slice0/Obligations.lean ====
section
/-! DEFINITION. The statements for the provers. Each docstring names the rules a statement formalises. That a step takes
up one action of the host, and that the device's answers are data of the state, is the model's form (log 2, log 3). -/

open Sys2Proof Sys2Proof.Machine

/-! ## Encoding -/

/-- Decode and encode agree on every instruction, through the port's bits (30_encoding.md R49 to R51). The layout of the
port as one number is the model's choice (log 8). -/
def Obligations.EveryInstructionDecodesFromItsPortBits : Prop :=
  ∀ i : Instr, decodeTableWord 172 (encode i).toBits.toNat = some i

/-- 30_encoding.md R51: the operation code selects the command, and R50: the fields it takes. -/
def Obligations.CommandsTakeTheOperandsOfTheirRow : Prop :=
  ∀ c : Command,
    (c.op = 0x01#8 → decode c = .ok (.config (c.a.extractLsb' 0 2) (c.a.getLsbD 2))) ∧
    (c.op = 0x10#8 → decode c = .ok (.bta8 (c.a.getLsbD 0))) ∧
    (c.op = 0x11#8 → decode c = .ok (.bta16 (c.a.getLsbD 0))) ∧
    (c.op = 0x12#8 → decode c = .ok (.atb8 (c.a.extractLsb' 0 8))) ∧
    (c.op = 0x13#8 → decode c = .ok (.atb16 c.a)) ∧
    (c.op = 0x14#8 → decode c = .ok (.scale c.a)) ∧
    (c.op = 0x15#8 → decode c = .ok (.hapos c.a)) ∧
    (c.op = 0x16#8 → decode c = .ok (.haneg c.a)) ∧
    (c.op = 0x17#8 → decode c = .ok (.norm c.a c.b)) ∧
    (c.op = 0x18#8 → decode c = .ok (.col8 c.vlen
      ⟨c.v.l0.extractLsb' 0 8, c.v.l1.extractLsb' 0 8, c.v.l2.extractLsb' 0 8, c.v.l3.extractLsb' 0 8,
       c.v.l4.extractLsb' 0 8, c.v.l5.extractLsb' 0 8, c.v.l6.extractLsb' 0 8, c.v.l7.extractLsb' 0 8⟩)) ∧
    (c.op = 0x19#8 → decode c = .ok (.col16 c.vlen c.v)) ∧
    (c.op = 0x21#8 → decode c = .ok .build20) ∧
    (c.op = 0x22#8 → decode c = .ok .build7) ∧
    (c.op = 0x23#8 → decode c = .ok .probe) ∧
    (c.op = 0x30#8 → decode c = .ok .handshake) ∧
    (c.op = 0x40#8 → decode c = .ok .update) ∧
    (c.op = 0x41#8 → decode c = .ok (.haptic c.vlen (c.v.l0.extractLsb' 0 8) (c.v.l1.extractLsb' 0 8)
      (c.v.l2.extractLsb' 0 8) (c.v.l3.extractLsb' 0 8))) ∧
    (c.op = 0x42#8 → decode c = .ok (.ackdec c.vlen (c.v.l0.extractLsb' 0 8)))

/-- 30_encoding.md R52: the reserved operation codes are exactly the listed ranges, and each is refused with
`E_ILLEGAL_OP`, changing nothing else, unless the block is `ABORTED`; the illegal operand values of a listed command are
refused with the code R52 names, and no other operand value of any command is. -/
def Obligations.ReservedAndIllegalEncodingsAreRefused : Prop :=
  (∀ c : Command, decode c = .error (.reservedOp c.op) ↔
    (c.op.toNat = 0x00 ∨ (0x02 ≤ c.op.toNat ∧ c.op.toNat ≤ 0x0F) ∨ (0x1A ≤ c.op.toNat ∧ c.op.toNat ≤ 0x20) ∨
      (0x24 ≤ c.op.toNat ∧ c.op.toNat ≤ 0x2F) ∨ (0x31 ≤ c.op.toNat ∧ c.op.toNat ≤ 0x3F) ∨ 0x43 ≤ c.op.toNat)) ∧
  (∀ (c : Command) (s : State), decode c = .error (.reservedOp c.op) → s.hsState ≠ .aborted →
    issue c s = .next { s with lastErr := .illegalOp }) ∧
  (∀ (m : BitVec 2) (n : Bool) (s : State), s.hsState = .start →
    (m = 3#2 → exec (.config m n) s = .next { s with lastErr := .invalidConfig }) ∧
    (m ≠ 3#2 → ∃ t, exec (.config m n) s = .next t ∧ t.lastErr = .none)) ∧
  (∀ (k : BitVec 4) (v : Lanes Byte) (w : Lanes Word) (s : State), s.Accepts →
    (k ≠ 8#4 → exec (.col8 k v) s = .next { s with lastErr := .invalidInputLength } ∧
      exec (.col16 k w) s = .next { s with lastErr := .invalidInputLength }) ∧
    (k = 8#4 → (∃ t, exec (.col8 k v) s = .next t ∧ t.lastErr = .none) ∧
      ∃ t, exec (.col16 k w) s = .next t ∧ t.lastErr = .none)) ∧
  (∀ (k : BitVec 4) (r0 r1 r2 r3 : Byte) (s : State), s.Accepts →
    (k.toNat > 4 → exec (.haptic k r0 r1 r2 r3) s = .next { s with lastErr := .invalidInputLength } ∧
      exec (.ackdec k r0) s = .next { s with lastErr := .invalidInputLength }) ∧
    (k.toNat ≤ 4 → (∃ t, exec (.haptic k r0 r1 r2 r3) s = .next t ∧ t.lastErr = .none) ∧
      ∃ t, exec (.ackdec k r0) s = .next t ∧ t.lastErr = .none)) ∧
  (∀ (i : Instr) (s t : State), i.wellFormed = true → exec i s = .next t →
    t.lastErr ≠ .illegalOp ∧ t.lastErr ≠ .invalidConfig ∧ t.lastErr ≠ .invalidInputLength)

/-- 30_encoding.md R50: every port field or bit a command does not list is ignored, in every state. For `HAPTIC` and
`ACKDEC` a lane at or above `vlen` is such a field, and with an illegal `vlen` every lane is (`sameOperands`). -/
def Obligations.UnlistedPortBitsHaveNoEffect : Prop :=
  ∀ (c d : Command) (s : State), sameOperands c d = true → issue c s = issue d s

/-- A few port values written out from 30_encoding.md R49 to R51 decode to the command they stand for (sanity). -/
def Obligations.WrittenOutPortWordsDecode : Prop :=
  decodeTableWord 24 0x000501 = some (.config 1#2 true) ∧
  decodeTableWord 24 0x98E014 = some (.scale 0x98E0#16) ∧
  decodeTableWord 40 0x4074A24017 = some (.norm 0xA240#16 0x4074#16) ∧
  decodeTableWord 8 0x21 = some .build20 ∧
  decodeTableWord 8 0x30 = some .handshake ∧
  decodeTableWord 8 0x40 = some .update ∧
  decodeTableWord 172 0x40000000000000000000000800001005A0000000041 =
    some (.haptic 4#4 0x5A#8 0x01#8 0x80#8 0x00#8)

/-! ## Steps -/

/-- A step runs the decoded command: the host's next action is the command, and the step is `exec` of the instruction
it decodes to, on the state with that action taken up (the model's form of a step, log 1 and log 2). -/
def Obligations.StepRunsTheDecodedCommand : Prop :=
  (∀ (s : State) (c : Command) (i : Instr), s.nextAction = .command c → decode c = .ok i →
    step s = exec i s.dropAction) ∧
  (∀ (s : State) (a : HostAction) (rest : List HostAction), s.host = a :: rest →
    s.nextAction = a ∧ s.dropAction = { s with host := rest })

/-- A command placed for a table row is run by the very next step, on an otherwise unchanged state (log 1, log 8). -/
def Obligations.PlacedTableWordIsRunNext : Prop :=
  ∀ (s : State) (nbits w : Nat) (i : Instr), decodeTableWord nbits w = some i →
    step (s.withFetchWord nbits w) = exec i s

/-- Every step goes on: no state, host action or device answer stops the machine (60_exceptions.md R104). -/
def Obligations.EveryStepAnswersANextState : Prop :=
  ∀ s : State, ∃ t, step s = .next t

/-- 10_state.md R24 and 42_handshake_fsm.md R89: a change on the snapshot port is taken over whole and alters no
register. -/
def Obligations.SnapshotChangesAlterNoRegister : Prop :=
  ∀ (s : State) (p : Snapshot), s.nextAction = .snapshot p → step s = .next { s.dropAction with snap := p }

/-- 70_reset_and_hazards.md R122 and 10_state.md R32: after reset every element of the block has its reset value, and no
transport interaction was made. -/
def Obligations.ResetLeavesExactlyTheResetValues : Prop :=
  ∀ s t : State, s.nextAction = .reset → step s = .next t →
    t.cfgTm.code = 0#2 ∧ t.cfgNorm = false ∧ t.hsState.code = 0#3 ∧ t.hsVerdict.code = 0#2 ∧ t.commMode.code = 0#2 ∧
    t.res = 0#16 ∧ t.res2 = 0#16 ∧ t.rumbleCmd = .none ∧ (∀ b ∈ frameBytes t.txFrame, b = 0#8) ∧ t.txLen.toNat = 0 ∧
    t.rxBuf = ⟨0#8, 0#8, 0#8, 0#8⟩ ∧ t.rxLen = 0 ∧ t.lastErr.code = 0#4 ∧ t.ackFail = false ∧ t.trace = s.trace ∧
    t.reads = s.reads ∧ t.writes = s.writes

/-! ## Common checks and errors -/

/-- 60_exceptions.md R107: the common checks, in their order, for every command on the port; and the pure commands are
accepted in `START` and every non-fault terminal state. -/
def Obligations.CommonChecksComeInOrder : Prop :=
  (∀ (c : Command) (s : State), s.hsState = .aborted → issue c s = .next { s with lastErr := .aborted }) ∧
  (∀ (c : Command) (s : State) (e : DecodeError), s.hsState ≠ .aborted → decode c = .error e →
    issue c s = .next { s with lastErr := .illegalOp }) ∧
  (∀ (c : Command) (s : State) (i : Instr), s.hsState.busy = true → decode c = .ok i →
    issue c s = .next { s with lastErr := .busy }) ∧
  (∀ (i : Instr) (s : State), s.Accepts → pureCommand i = true →
    ∃ t, exec i s = .next t ∧ (t.lastErr = .none ∨ t.lastErr = .invalidInputLength))

/-- 60_exceptions.md R104 item 1 and R106: a command on the port that leaves a refusal code has left everything else as
it was. -/
def Obligations.RefusalsChangeNothingElse : Prop :=
  ∀ (c : Command) (s t : State), issue c s = .next t → t.lastErr ≠ .none → t.lastErr ≠ .txIo → t.lastErr ≠ .rxIo →
    t = { s with lastErr := t.lastErr }

/-- 60_exceptions.md R105: `last_err` is the outcome of the last command alone, whatever it held; an FSM step writes it
only when it turns fatal or enters a terminal state. -/
def Obligations.LastErrIsNotSticky : Prop :=
  (∀ (c : Command) (s : State) (e : ErrCode), issue c { s with lastErr := e } = issue c s) ∧
  (∀ s t : State, s.nextAction = .idle → step s = .next t → t.lastErr ≠ s.lastErr → t.hsState.terminal = true)

/-- 60_exceptions.md R102: what each command can leave in `last_err` (codes 13 to 15, and any code R102 does not give
it, are never left by it). -/
def Obligations.CommandsRaiseOnlyTheirCodes : Prop :=
  ∀ (i : Instr) (s t : State), exec i s = .next t →
    t.lastErr = .none ∨ t.lastErr = .busy ∨ t.lastErr = .aborted ∨
    (t.lastErr = .invalidInputLength ∧
      ((∃ k v, i = .col8 k v) ∨ (∃ k v, i = .col16 k v) ∨ (∃ k a b c d, i = .haptic k a b c d) ∨ ∃ k a, i = .ackdec k a)) ∨
    ((t.lastErr = .configLocked ∨ t.lastErr = .invalidConfig) ∧ ∃ m n, i = .config m n) ∨
    (t.lastErr = .alreadyNegotiated ∧ i = .handshake) ∨
    ((t.lastErr = .notNegotiated ∨ t.lastErr = .txIo ∨ t.lastErr = .rxIo) ∧ i = .update)

/-! ## Value codec -/

/-- 40_value_codec.md R61 and R62, with their encodings. -/
def Obligations.ButtonToAnalogGivesTheExtremes : Prop :=
  (∀ (p : Bool) (s : State), s.Accepts →
    exec (.bta8 p) s = .next { s with res := if p then 0x00FF#16 else 0x0000#16, lastErr := .none } ∧
    exec (.bta16 p) s = .next { s with res := if p then 0x7FFF#16 else 0x8000#16, lastErr := .none }) ∧
  (∀ c : Command, (c.op = 0x10#8 → decode c = .ok (.bta8 (c.a.getLsbD 0))) ∧
    (c.op = 0x11#8 → decode c = .ok (.bta16 (c.a.getLsbD 0))))

/-- 40_value_codec.md R63 and R64, with their encodings: the thresholds are 127 and 0, both strict. -/
def Obligations.AnalogToButtonComparesWithTheMidpoint : Prop :=
  (∀ (v : Byte) (x : Word) (s : State), s.Accepts →
    exec (.atb8 v) s = .next { s with res := if v.toNat > 127 then 1#16 else 0#16, lastErr := .none } ∧
    exec (.atb16 x) s = .next { s with res := if x.toInt > 0 then 1#16 else 0#16, lastErr := .none }) ∧
  (∀ c : Command, (c.op = 0x12#8 → decode c = .ok (.atb8 (c.a.extractLsb' 0 8))) ∧
    (c.op = 0x13#8 → decode c = .ok (.atb16 c.a)))

/-- 40_value_codec.md R65: the quotient by 256 rounded down, plus 0x80, never out of 0..255; and the bit form. -/
def Obligations.ScaleForWireIsAnArithmeticShift : Prop :=
  (∀ (x : Word) (s : State), s.Accepts →
    exec (.scale x) s = .next { s with res := BitVec.ofInt 16 (x.toInt / 256 + 0x80), lastErr := .none } ∧
    0 ≤ x.toInt / 256 + 0x80 ∧ x.toInt / 256 + 0x80 ≤ 255 ∧
    BitVec.ofInt 16 (x.toInt / 256 + 0x80) = ((x.extractLsb' 8 8) ^^^ 0x80#8).setWidth 16) ∧
  (∀ c : Command, c.op = 0x14#8 → decode c = .ok (.scale c.a))

/-- 40_value_codec.md R66: the positive half axis, fixed point and jump included. -/
def Obligations.HalfAxisPositiveMap : Prop :=
  (∀ (x : Word) (s : State), s.Accepts →
    exec (.hapos x) s = .next { s with res := BitVec.ofInt 16 (haposClosed x.toInt), lastErr := .none }) ∧
  (∀ x : Word, (halfAxisPos x).toInt = haposClosed x.toInt ∧ ((halfAxisPos x).toInt > 0 ↔ x.toInt ≥ 16385)) ∧
  (∀ c : Command, c.op = 0x15#8 → decode c = .ok (.hapos c.a))

/-- 40_value_codec.md R67: the negative half axis in the closed form, and as the positive map of the negated,
off-by-one-corrected input. -/
def Obligations.HalfAxisNegativeMap : Prop :=
  (∀ (x : Word) (s : State), s.Accepts →
    exec (.haneg x) s = .next { s with res := BitVec.ofInt 16 (hanegClosed x.toInt), lastErr := .none }) ∧
  (∀ x : Word, (halfAxisNeg x).toInt = hanegClosed x.toInt ∧ ((halfAxisNeg x).toInt > 0 ↔ x.toInt ≤ -16386) ∧
    hanegClosed x.toInt = haposClosed (0 - clampI16 (x.toInt + 1))) ∧
  (∀ c : Command, c.op = 0x16#8 → decode c = .ok (.haneg c.a))

/-- 40_value_codec.md R68: the linear model on both coordinates, its sign, its growth and its bounds. -/
def Obligations.StickNormalisationIsLinearAndSaturating : Prop :=
  (∀ (x y : Word) (s : State), s.Accepts →
    exec (.norm x y) s = .next { s with
      res := BitVec.ofInt 16 (normClosed s.cfgNorm x.toInt)
      res2 := BitVec.ofInt 16 (normClosed s.cfgNorm y.toInt)
      lastErr := .none }) ∧
  (∀ x : Word, (norm1 false x) = x ∧ (norm1 true x).toInt = normClosed true x.toInt ∧
    (0 ≤ x.toInt → x.toInt ≤ (norm1 true x).toInt) ∧ (x.toInt ≤ 0 → (norm1 true x).toInt ≤ x.toInt) ∧
    (-9 ≤ x.toInt → x.toInt ≤ 9 → norm1 true x = x) ∧
    (x.toInt ≥ 29790 → (norm1 true x).toInt = 32767) ∧ (x.toInt ≤ -29790 → (norm1 true x).toInt = -32768)) ∧
  (∀ c : Command, c.op = 0x17#8 → decode c = .ok (.norm c.a c.b))

/-- 40_value_codec.md R69 and R70, with their encodings: lane i goes to bit 7 − i, any other length is refused. -/
def Obligations.CollapsePutsLaneIInBitSevenMinusI : Prop :=
  (∀ (v : Lanes Byte) (s : State), s.Accepts →
    ∃ r : Word, exec (.col8 8#4 v) s = .next { s with res := r, lastErr := .none } ∧ r.toNat < 256 ∧
      ∀ i, (h : i < (lanesList v).length) → (r.getLsbD (7 - i) = true ↔ ((lanesList v)[i]).toNat > 127)) ∧
  (∀ (v : Lanes Word) (s : State), s.Accepts →
    ∃ r : Word, exec (.col16 8#4 v) s = .next { s with res := r, lastErr := .none } ∧ r.toNat < 256 ∧
      ∀ i, (h : i < (lanesList v).length) → (r.getLsbD (7 - i) = true ↔ ((lanesList v)[i]).toInt > 0)) ∧
  (∀ (k : BitVec 4) (v : Lanes Byte) (w : Lanes Word) (s : State), s.Accepts → k ≠ 8#4 →
    exec (.col8 k v) s = .next { s with lastErr := .invalidInputLength } ∧
    exec (.col16 k w) s = .next { s with lastErr := .invalidInputLength }) ∧
  (∀ c : Command,
    (c.op = 0x18#8 → decode c = .ok (.col8 c.vlen
      ⟨c.v.l0.extractLsb' 0 8, c.v.l1.extractLsb' 0 8, c.v.l2.extractLsb' 0 8, c.v.l3.extractLsb' 0 8,
       c.v.l4.extractLsb' 0 8, c.v.l5.extractLsb' 0 8, c.v.l6.extractLsb' 0 8, c.v.l7.extractLsb' 0 8⟩)) ∧
    (c.op = 0x19#8 → decode c = .ok (.col16 c.vlen c.v)))

/-! ## Packet builder -/

/-- 41_packet_builder.md R78 and R79, with their encodings: both commands store the whole 20-byte image, and differ in
the length alone. -/
def Obligations.BuildersStoreTheFrameImage : Prop :=
  (∀ s : State, s.Accepts →
    exec .build20 s =
      .next { s with txFrame := frame20 s.snap s.cfgTm s.cfgNorm, txLen := .extended, lastErr := .none } ∧
    exec .build7 s =
      .next { s with txFrame := frame20 s.snap s.cfgTm s.cfgNorm, txLen := .minimal, lastErr := .none }) ∧
  FrameLen.extended.toNat = 20 ∧ FrameLen.minimal.toNat = 7 ∧
  (∀ f : Frame, packet f .minimal = (frameBytes f).take 7 ∧ packet f .extended = frameBytes f) ∧
  (∀ c : Command, (c.op = 0x21#8 → decode c = .ok .build20) ∧ (c.op = 0x22#8 → decode c = .ok .build7))

/-- 41_packet_builder.md R80, with its encoding: the probe frame is one constant, whatever the configuration and the
snapshot. -/
def Obligations.ProbeLoadsTheNeutralFrame : Prop :=
  (∀ s : State, s.Accepts → ∃ f : Frame, exec .probe s =
      .next { s with txFrame := f, txLen := .extended, lastErr := .none } ∧
    frameBytes f = [0x5A#8, 0xFF#8, 0xFF#8, 0x80#8, 0x80#8, 0x80#8, 0x80#8, 0x00#8, 0x00#8, 0x00#8, 0x00#8, 0x00#8,
      0x00#8, 0x00#8, 0x00#8, 0x00#8, 0x00#8, 0x00#8, 0x00#8, 0x55#8]) ∧
  (∀ c : Command, c.op = 0x23#8 → decode c = .ok .probe)

/-- 41_packet_builder.md R81 item 4: built from the neutral snapshot, the frame is the probe frame under every
configuration. -/
def Obligations.NeutralSnapshotBuildsTheProbeFrame : Prop :=
  ∀ s : State, s.Accepts → s.snap = Snapshot.neutral → exec .build20 s = exec .probe s

/-- 30_encoding.md R55 and 41_packet_builder.md R72, R73, R75: the button of each bit of the two button bytes, 0 when
pressed, the trigger-fed ones by their thresholds. -/
def Obligations.ButtonBitsAreZeroWhenPressed : Prop :=
  ∀ (p : Snapshot) (tm : TriggerMode) (norm : Bool),
    let f := frame20 p tm norm
    (f.buttons1.getLsbD 7 = !p.dpadLeft) ∧ (f.buttons1.getLsbD 6 = !p.dpadDown) ∧
    (f.buttons1.getLsbD 5 = !p.dpadRight) ∧ (f.buttons1.getLsbD 4 = !p.dpadUp) ∧ (f.buttons1.getLsbD 3 = !p.start) ∧
    (f.buttons1.getLsbD 2 = !p.r3) ∧ (f.buttons1.getLsbD 1 = !p.l3) ∧ (f.buttons1.getLsbD 0 = !p.back) ∧
    (f.buttons2.getLsbD 5 = !p.b) ∧ (f.buttons2.getLsbD 4 = !p.y) ∧ (f.buttons2.getLsbD 3 = !p.r1) ∧
    (f.buttons2.getLsbD 2 = !p.l1) ∧
    match tm with
    | .normal =>
      (f.buttons2.getLsbD 7 = !p.x) ∧ (f.buttons2.getLsbD 6 = !p.a) ∧
      (f.buttons2.getLsbD 1 = false ↔ p.rightTrigger.toInt ≥ 16385) ∧
      (f.buttons2.getLsbD 0 = false ↔ p.leftTrigger.toInt ≥ 16385)
    | .rightStickAsTrigger =>
      (f.buttons2.getLsbD 7 = !p.x) ∧ (f.buttons2.getLsbD 6 = !p.a) ∧
      (f.buttons2.getLsbD 1 = false ↔ p.rightY.toInt ≥ 16385) ∧
      (f.buttons2.getLsbD 0 = false ↔ p.rightY.toInt ≤ -16386)
    | .crossSquareAsTrigger =>
      (f.buttons2.getLsbD 7 = false ↔ p.leftTrigger.toInt ≥ 16385) ∧
      (f.buttons2.getLsbD 6 = false ↔ p.rightTrigger.toInt ≥ 16385) ∧
      (f.buttons2.getLsbD 1 = !p.x) ∧ (f.buttons2.getLsbD 0 = !p.a)

/-- 41_packet_builder.md R74: the four stick bytes, normalised after the trigger mode has chosen the source of the
right Y; the trigger difference saturates (R73). -/
def Obligations.StickBytesAreScaledAfterNormalisation : Prop :=
  ∀ (p : Snapshot) (tm : TriggerMode) (norm : Bool),
    let f := frame20 p tm norm
    f.rightX = wireByte (normClosed norm p.rightX.toInt) ∧ f.leftX = wireByte (normClosed norm p.leftX.toInt) ∧
    f.leftY = wireByte (normClosed norm p.leftY.toInt) ∧
    f.rightY = wireByte (normClosed norm (match tm with
      | .normal => p.rightY.toInt
      | .rightStickAsTrigger => clampI16 (p.leftTrigger.toInt - p.rightTrigger.toInt)
      | .crossSquareAsTrigger => p.rightY.toInt))

/-- 41_packet_builder.md R72, R73, R76 and 30_encoding.md R56: the twelve pressure bytes; R77 and 30_encoding.md R57:
the magic byte and the mode byte. -/
def Obligations.PressureMagicAndModeBytes : Prop :=
  ∀ (p : Snapshot) (tm : TriggerMode) (norm : Bool),
    let f := frame20 p tm norm
    let pos (t : Word) : Byte := wireByte (haposClosed t.toInt)
    f.magic = 0x5A#8 ∧ f.mode = (if p.guide then 0xAA#8 else 0x55#8) ∧
    f.pRight = digitalByte p.dpadRight ∧ f.pLeft = digitalByte p.dpadLeft ∧ f.pUp = digitalByte p.dpadUp ∧
    f.pDown = digitalByte p.dpadDown ∧ f.pTriangle = digitalByte p.y ∧ f.pCircle = digitalByte p.b ∧
    f.pL1 = digitalByte p.l1 ∧ f.pR1 = digitalByte p.r1 ∧
    match tm with
    | .normal => f.pCross = digitalByte p.a ∧ f.pSquare = digitalByte p.x ∧ f.pL2 = pos p.leftTrigger ∧
      f.pR2 = pos p.rightTrigger
    | .rightStickAsTrigger => f.pCross = digitalByte p.a ∧ f.pSquare = digitalByte p.x ∧
      f.pL2 = wireByte (hanegClosed p.rightY.toInt) ∧ f.pR2 = pos p.rightY
    | .crossSquareAsTrigger => f.pCross = pos p.rightTrigger ∧ f.pSquare = pos p.leftTrigger ∧
      f.pL2 = digitalByte p.a ∧ f.pR2 = digitalByte p.x

/-- 41_packet_builder.md R81 items 1 to 3: the 7-byte packet is the prefix of the 20-byte packet, building twice gives
the same, and the lengths are 7 and 20. -/
def Obligations.MinimalPacketIsThePrefix : Prop :=
  ∀ s : State, s.Accepts → ∃ t7 t20 : State,
    exec .build7 s = .next t7 ∧ exec .build20 s = .next t20 ∧
    packet t7.txFrame t7.txLen = (packet t20.txFrame t20.txLen).take 7 ∧
    (packet t7.txFrame t7.txLen).length = 7 ∧ (packet t20.txFrame t20.txLen).length = 20 ∧
    exec .build7 t7 = .next t7 ∧ exec .build20 t20 = .next t20 ∧
    exec .build20 t7 = .next t20 ∧ exec .build7 t20 = .next t7

/-! ## Session and handshake -/

/-- 42_handshake_fsm.md R82, with its encoding: every check of `CONFIG` in its order, and its effect. -/
def Obligations.ConfigLoadsOnlyBeforeTheHandshake : Prop :=
  (∀ (m : BitVec 2) (n : Bool) (s : State),
    (s.hsState = .aborted → exec (.config m n) s = .next { s with lastErr := .aborted }) ∧
    (s.hsState.busy = true → exec (.config m n) s = .next { s with lastErr := .busy }) ∧
    (s.hsState.negotiated = true → exec (.config m n) s = .next { s with lastErr := .configLocked }) ∧
    (s.hsState = .start → m = 3#2 → exec (.config m n) s = .next { s with lastErr := .invalidConfig }) ∧
    (s.hsState = .start → m ≠ 3#2 → ∃ tm : TriggerMode, tm.code = m ∧
      exec (.config m n) s = .next { s with cfgTm := tm, cfgNorm := n, lastErr := .none })) ∧
  (∀ c : Command, c.op = 0x01#8 → decode c = .ok (.config (c.a.extractLsb' 0 2) (c.a.getLsbD 2)))

/-- 42_handshake_fsm.md R83, with its encoding: `HANDSHAKE` starts the FSM once per session and touches no transport. -/
def Obligations.HandshakeStartsOncePerSession : Prop :=
  (∀ s : State,
    (s.hsState = .aborted → exec .handshake s = .next { s with lastErr := .aborted }) ∧
    (s.hsState.busy = true → exec .handshake s = .next { s with lastErr := .busy }) ∧
    (s.hsState.negotiated = true → exec .handshake s = .next { s with lastErr := .alreadyNegotiated }) ∧
    (s.hsState = .start → exec .handshake s = .next { s with hsState := .flushPre, lastErr := .none })) ∧
  (∀ c : Command, c.op = 0x30#8 → decode c = .ok .handshake)

/-- 42_handshake_fsm.md R84: the step in `FLUSH_PRE`, every answer of the device and both policies. `u` is the state
whose action has been taken up, `r` the state after the read, `f` with the probe loaded. -/
def Obligations.FlushPreStepClearsThenProbes : Prop :=
  ∀ s : State, s.nextAction = .idle → s.hsState = .flushPre →
    let u := s.dropAction
    let r := u.rxRead Config.flushReadMax
    let f := { r with txFrame := neutral20, txLen := .extended }
    let answer := u.rxAnswer Config.flushReadMax
    (∀ b l, answer = .bytes (b :: l) → step s = .next r) ∧
    (answer = .ioErr → step s = .next { r with hsState := .aborted, lastErr := .fatalIo }) ∧
    (answer = .timeout ∨ answer = .bytes [] →
      (f.txAnswer (frameBytes neutral20) = .ok →
        step s = .next { f.txWrite (frameBytes neutral20) with hsState := .probed }) ∧
      (∀ k, f.txAnswer (frameBytes neutral20) = .ioErr k → s.probePolicy = .abort →
        step s = .next { f.txWrite (frameBytes neutral20) with hsState := .aborted, lastErr := .fatalIo }) ∧
      (∀ k, f.txAnswer (frameBytes neutral20) = .ioErr k → s.probePolicy = .unknown →
        step s = .next { f.txWrite (frameBytes neutral20) with hsVerdict := .undetermined, hsState := .flushPost }))

/-- 42_handshake_fsm.md R85: the step in `PROBED`, every answer of the device and both policies. -/
def Obligations.ProbedStepClassifiesTheResponse : Prop :=
  ∀ s : State, s.nextAction = .idle → s.hsState = .probed →
    let u := s.dropAction
    let r := u.rxRead 4
    let answer := u.rxAnswer 4
    let noResponse := { r with
      rxLen := 0, rxBuf := ⟨0#8, 0#8, 0#8, 0#8⟩, hsVerdict := .undetermined, hsState := .flushPost }
    (answer = .ioErr → s.probePolicy = .abort →
      step s = .next { r with hsState := .aborted, lastErr := .fatalIo }) ∧
    (answer = .ioErr → s.probePolicy = .unknown → step s = .next noResponse) ∧
    (answer = .timeout → step s = .next noResponse) ∧
    (∀ l, answer = .bytes l → ∃ n : Fin 5, n.val = l.length ∧ step s = .next { r with
      rxLen := n
      rxBuf := ⟨l.getD 0 0#8, l.getD 1 0#8, l.getD 2 0#8, l.getD 3 0#8⟩
      hsVerdict := classify l
      hsState := .flushPost })

/-- 42_handshake_fsm.md R86: only the first byte counts, the magic byte is checked first, an empty response is
`Undetermined`; and the three outcomes are all reachable, whatever `MINIMAL_ERR_CHAR` is. -/
def Obligations.ClassificationByTheFirstByte : Prop :=
  classify [] = .undetermined ∧
  (∀ (b : Byte) (l : List Byte), classify (b :: l) =
    if b = 0x5A#8 then .extended else if b = Config.minimalErrChar then .minimal else .undetermined) ∧
  (∀ l, classify (0x5A#8 :: l) = .extended) ∧ (∀ l, classify (Config.minimalErrChar :: l) = .minimal) ∧
  (∀ (b : Byte) (l : List Byte), b.toNat ≥ 0x80 → classify (b :: l) = .undetermined)

/-- 42_handshake_fsm.md R87: the step in `FLUSH_POST`, every answer of the device; and, without a reset, the end of that
flush is the only writer of `comm_mode`. -/
def Obligations.FlushPostStepSetsTheMode : Prop :=
  (∀ s : State, s.nextAction = .idle → s.hsState = .flushPost →
    let u := s.dropAction
    let r := u.rxRead Config.flushReadMax
    let answer := u.rxAnswer Config.flushReadMax
    (∀ b l, answer = .bytes (b :: l) → step s = .next r) ∧
    (answer = .ioErr → step s = .next { r with hsState := .aborted, lastErr := .fatalIo }) ∧
    (answer = .timeout ∨ answer = .bytes [] → step s = .next { r with
      commMode := s.hsVerdict
      hsState := (match s.hsVerdict with | .minimal => .minimal | .extended => .extended | .undetermined => .unknown)
      lastErr := (match s.hsVerdict with
        | .minimal => .none | .extended => .none | .undetermined => .unrecognizedResponse) })) ∧
  (∀ s t : State, s.nextAction ≠ .reset → step s = .next t → t.commMode ≠ s.commMode →
    s.nextAction = .idle ∧ s.hsState = .flushPost ∧ t.commMode = s.hsVerdict ∧ t.hsState.negotiated = true)

/-- 42_handshake_fsm.md R90, R83 and 60_exceptions.md R110: the transitions of `hs_state` without a reset are exactly
those of the table; each but the first is an FSM step's. -/
def Obligations.HandshakeTransitionsAreThoseOfTheTable : Prop :=
  ∀ s t : State, s.nextAction ≠ .reset → step s = .next t →
    t.hsState = s.hsState ∨
    (s.hsState = .start ∧ t.hsState = .flushPre ∧ ∃ c, s.nextAction = .command c ∧ c.op = 0x30#8) ∨
    (s.nextAction = .idle ∧
      ((s.hsState = .flushPre ∧ (t.hsState = .probed ∨ t.hsState = .aborted)) ∨
       (s.hsState = .flushPre ∧ t.hsState = .flushPost ∧ s.probePolicy = .unknown) ∨
       (s.hsState = .probed ∧ (t.hsState = .flushPost ∨ (t.hsState = .aborted ∧ s.probePolicy = .abort))) ∨
       (s.hsState = .flushPost ∧
        (t.hsState = .minimal ∨ t.hsState = .extended ∨ t.hsState = .unknown ∨ t.hsState = .aborted))))

/-- 42_handshake_fsm.md R88: over any run without a reset, a terminal state, its mode and the session's configuration
stay. -/
def Obligations.TerminalStatesStayForTheSession : Prop :=
  ∀ (k : Nat) (s t : State), s.hsState.terminal = true → k ≤ s.host.length → (∀ a ∈ s.host.take k, a ≠ .reset) →
    Sys2Proof.core.run k s = .next t →
    t.hsState = s.hsState ∧ t.commMode = s.commMode ∧ t.cfgTm = s.cfgTm ∧ t.cfgNorm = s.cfgNorm

/-- 10_state.md R19 and R20: without a reset, only `CONFIG` in `START` writes the two configuration registers. -/
def Obligations.OnlyConfigInStartWritesTheConfiguration : Prop :=
  ∀ s t : State, s.nextAction ≠ .reset → step s = .next t → (t.cfgTm ≠ s.cfgTm ∨ t.cfgNorm ≠ s.cfgNorm) →
    s.hsState = .start ∧ ∃ c, s.nextAction = .command c ∧ c.op = 0x01#8

/-- 42_handshake_fsm.md R91: left alone, the block takes an FSM step exactly when it is busy; a command issued then is
refused; and an FSM step never depends on the snapshot or the configuration, and changes none of them. -/
def Obligations.FsmStepsRunExactlyWhileBusy : Prop :=
  (∀ s : State, s.nextAction = .idle → s.hsState.busy = false → step s = .next s.dropAction) ∧
  (∀ s t : State, s.nextAction = .idle → s.hsState.busy = true → step s = .next t → s.trace.length < t.trace.length) ∧
  (∀ (s : State) (i : Instr), s.hsState.busy = true → exec i s = .next { s with lastErr := .busy }) ∧
  (∀ (s t : State) (p : Snapshot) (tm : TriggerMode) (n : Bool), s.nextAction = .idle → step s = .next t →
    step { s with snap := p, cfgTm := tm, cfgNorm := n } = .next { t with snap := p, cfgTm := tm, cfgNorm := n })

/-- 60_exceptions.md R110, R111 and R104 item 3: `ABORTED` is entered only by an FSM step, with `E_FATAL_IO`, saving
nothing: every register but `hs_state`, `last_err` and the frame of a probe already loaded is as it was; in it every
command is refused, and no step but a reset leaves it. -/
def Obligations.AbortedIsEnteredByFatalStepsAndLeftByReset : Prop :=
  (∀ s t : State, step s = .next t → t.hsState = .aborted → s.hsState ≠ .aborted →
    s.nextAction = .idle ∧ s.hsState.busy = true ∧ t.lastErr = .fatalIo ∧ t.commMode = s.commMode ∧
    t.hsVerdict = s.hsVerdict ∧ t.cfgTm = s.cfgTm ∧ t.cfgNorm = s.cfgNorm ∧ t.res = s.res ∧ t.res2 = s.res2 ∧
    t.rumbleCmd = s.rumbleCmd ∧ t.rxBuf = s.rxBuf ∧ t.rxLen = s.rxLen ∧ t.ackFail = s.ackFail ∧ t.snap = s.snap ∧
    ((t.txFrame = s.txFrame ∧ t.txLen = s.txLen) ∨
      (s.hsState = .flushPre ∧ t.txFrame = neutral20 ∧ t.txLen = .extended))) ∧
  (∀ (s : State) (i : Instr), s.hsState = .aborted → exec i s = .next { s with lastErr := .aborted }) ∧
  (∀ s t : State, s.hsState = .aborted → step s = .next t → t.hsState ≠ .aborted → s.nextAction = .reset)

/-- 70_reset_and_hazards.md R129: however many steps one asks for, a device that answers every flush read with a byte
keeps either flush running that long. -/
def Obligations.AFlushRunsAsLongAsTheDeviceSends : Prop :=
  ∀ (k : Nat) (b : Byte) (s : State) (h : List HostAction) (r : List RxResult),
    s.hsState = .flushPre ∨ s.hsState = .flushPost →
    s.host = List.replicate k HostAction.idle ++ h → s.reads = List.replicate k (RxResult.bytes [b]) ++ r →
    ∃ t, Sys2Proof.core.run k s = .next t ∧ t.hsState = s.hsState ∧ t.reads = r ∧ t.trace.length = s.trace.length + k

/-- 42_handshake_fsm.md R83 to R87: from `START`, with a silent line, a probe that goes out and any response of at most
four bytes, `HANDSHAKE` and three FSM steps end in the terminal state and mode of the response, having written the
probe once. -/
def Obligations.HandshakeResolvesTheDialect : Prop :=
  ∀ (s : State) (l : List Byte) (h : List HostAction) (r : List RxResult) (w : List TxResult),
    s.hsState = .start → l.length ≤ 4 →
    s.host = .command (encode .handshake) :: .idle :: .idle :: .idle :: h →
    s.reads = .timeout :: .bytes l :: .timeout :: r → s.writes = .ok :: w →
    ∃ t, Sys2Proof.core.run 4 s = .next t ∧ t.commMode = classify l ∧ t.hsVerdict = classify l ∧
      t.hsState = (match classify l with | .minimal => .minimal | .extended => .extended | .undetermined => .unknown) ∧
      t.lastErr = (if classify l = .undetermined then .unrecognizedResponse else .none) ∧
      t.txFrame = neutral20 ∧ t.txLen = .extended ∧ t.rxLen.val = l.length ∧ t.rxBuf = rxBufOf l ∧
      t.cfgTm = s.cfgTm ∧ t.cfgNorm = s.cfgNorm ∧ t.res = s.res ∧ t.res2 = s.res2 ∧ t.rumbleCmd = s.rumbleCmd ∧
      t.ackFail = s.ackFail ∧ t.snap = s.snap ∧ t.probePolicy = s.probePolicy ∧ t.reads = r ∧ t.writes = w ∧ t.host = h ∧
      t.trace = s.trace ++ [.rxRead Config.flushReadMax .timeout, .txWrite (frameBytes neutral20) .ok,
        .rxRead 4 (.bytes l), .rxRead Config.flushReadMax .timeout]

/-- 70_reset_and_hazards.md R124 items 3 to 5: from any state, `ABORTED` included, reset, a legal `CONFIG` and
`HANDSHAKE` open a session with that configuration. -/
def Obligations.BootOrderOpensASession : Prop :=
  ∀ (s : State) (m : BitVec 2) (n : Bool) (k : Nat) (h : List HostAction), m ≠ 3#2 →
    s.host = bootActions m n k ++ h →
    ∃ t, Sys2Proof.core.run 3 s = .next t ∧ t.hsState = .flushPre ∧ t.cfgTm.code = m ∧ t.cfgNorm = n ∧
      t.commMode = .undetermined ∧ t.lastErr = .none ∧ t.trace = s.trace ∧ t.host = List.replicate k .idle ++ h

/-! ## Transport -/

/-- 20_memory.md R40 and R41: a read's answer is free within the bound, and a read changes nothing but the device's
pending answers and the record of it. -/
def Obligations.ReadsAreFreeAndBounded : Prop :=
  ∀ (n : Nat) (s : State),
    (∀ l, s.rxAnswer n = .bytes l → l.length ≤ n) ∧
    (∀ (r : RxResult) (rest : List RxResult), (∀ l, r = .bytes l → l.length ≤ n) →
      ({ s with reads := r :: rest } : State).rxAnswer n = r) ∧
    (∃ d, s.rxRead n =
      { s with reads := s.reads.tail, drawn := d, trace := s.trace ++ [.rxRead n (s.rxAnswer n)] })

/-- 20_memory.md R39 and R41: a write is accepted whole or fails with any prefix delivered, and changes nothing but the
device's pending answers and the record of it. -/
def Obligations.FailedWritesDeliverAnyPrefix : Prop :=
  ∀ (l : List Byte) (s : State),
    (s.txAnswer l = .ok ∨ ∃ k, k ≤ l.length ∧ s.txAnswer l = .ioErr k) ∧
    (∀ rest, ({ s with writes := .ok :: rest } : State).txAnswer l = .ok) ∧
    (∀ k rest, k ≤ l.length → ({ s with writes := .ioErr k :: rest } : State).txAnswer l = .ioErr k) ∧
    (∃ d, s.txWrite l =
      { s with writes := s.writes.tail, drawn := d, trace := s.trace ++ [.txWrite l (s.txAnswer l)] })

/-- 20_memory.md R39: only the probe and frames of exactly `tx_len` bytes are ever written, and the frame register
holds what was written. -/
def Obligations.OnlyWholePacketsAreWritten : Prop :=
  ∀ s t : State, step s = .next t → ∃ es : List Interaction, t.trace = s.trace ++ es ∧
    ∀ l w, .txWrite l w ∈ es → l = packet t.txFrame t.txLen ∧ (l.length = 7 ∨ l.length = 20)

/-- 20_memory.md R40: a zero-length read and a timeout have the same effect, in every FSM step and in `UPDATE`: every
register and all that is still to be read agree. The record of the world outside (log 10) tells the two answers apart and
is left out of the comparison, as is the answer itself where the step reads nothing. -/
def Obligations.EmptyReadsActAsTimeouts : Prop :=
  ∀ (s : State) (rest : List RxResult) (a : HostAction), a = .idle ∨ a = .command (encode .update) →
    ∃ t u, perform a { s with reads := .bytes [] :: rest } = .next t ∧
      perform a { s with reads := .timeout :: rest } = .next u ∧
      { t with trace := [], reads := rest } = { u with trace := [], reads := rest } ∧
      (t.reads = u.reads ∨ (t.trace = s.trace ∧ u.trace = s.trace))

/-- The record of the world outside is never read: earlier interactions change nothing in any step (log 10; 43_update_haptic.md
R95, no state of the block depends on a rumble call). -/
def Obligations.TheRecordIsNeverRead : Prop :=
  ∀ (s t : State) (past : List Interaction), step s = .next t →
    step { s with trace := past ++ s.trace } = .next { t with trace := past ++ t.trace }

/-! ## Update and haptics -/

/-- 43_update_haptic.md R96 and R97: every case of `UPDATE`. In the two dialects, `s1` has the frame built, `s2` the
packet written, `s3` the response read; `l` is the response (none after a timeout or an error). -/
def Obligations.UpdateBuildsWritesReadsAndDecodes : Prop :=
  (∀ s : State,
    (s.hsState = .aborted → exec .update s = .next { s with lastErr := .aborted }) ∧
    (s.hsState.busy = true → exec .update s = .next { s with lastErr := .busy }) ∧
    (s.hsState = .start → exec .update s = .next { s with lastErr := .notNegotiated }) ∧
    (s.hsState.negotiated = true → s.commMode = .undetermined → exec .update s = .next { s with lastErr := .none }) ∧
    (s.hsState.negotiated = true → s.commMode ≠ .undetermined →
      let f := frame20 s.snap s.cfgTm s.cfgNorm
      let len := (if s.commMode = .minimal then .minimal else .extended : FrameLen)
      let p := (frameBytes f).take (if s.commMode = .minimal then 7 else 20)
      let s1 := { s with txFrame := f, txLen := len }
      let s2 := s1.txWrite p
      let s3 := s2.rxRead 4
      let l := (match s2.rxAnswer 4 with | .bytes l => l | .timeout => [] | .ioErr => [])
      let e := (match s1.txAnswer p, s2.rxAnswer 4 with
        | .ioErr _, _ => .txIo | .ok, .ioErr => .rxIo | .ok, .timeout => .none | .ok, .bytes _ => .none : ErrCode)
      ∃ n : Fin 5, n.val = l.length ∧
        let s4 := { s3 with rxLen := n, rxBuf := ⟨l.getD 0 0#8, l.getD 1 0#8, l.getD 2 0#8, l.getD 3 0#8⟩ }
        (s.commMode = .minimal → exec .update s = .next { s4 with ackFail := ackFailed l, lastErr := e }) ∧
        (s.commMode = .extended → exec .update s = .next { s4 with
          rumbleCmd := hapticDecode l, trace := s4.trace ++ rumbleCalls (hapticDecode l), lastErr := e }))) ∧
  (∀ c : Command, c.op = 0x40#8 → decode c = .ok .update)

/-- 43_update_haptic.md R92 and R93: the haptic decoder on every response. -/
def Obligations.HapticDecoderReadsBytesOneAndTwo : Prop :=
  (∀ v : Byte, (rescale v).toNat = v.toNat * 257) ∧
  (∀ l : List Byte, l.length < 3 → hapticDecode l = .none) ∧
  (∀ (b0 : Byte) (l : List Byte), hapticDecode (b0 :: 0#8 :: 0#8 :: l) = .stop) ∧
  (∀ (b0 small large : Byte) (l : List Byte), small ≠ 0#8 ∨ large ≠ 0#8 →
    ∃ low high : Word, hapticDecode (b0 :: small :: large :: l) = .set low high 500#16 ∧
      low.toNat = large.toNat * 257 ∧ high.toNat = small.toNat * 257)

/-- 43_update_haptic.md R99, with its encoding: `HAPTIC` writes the decoded command and emits nothing. -/
def Obligations.HapticCommandDecodesItsLanes : Prop :=
  (∀ (k : BitVec 4) (r0 r1 r2 r3 : Byte) (s : State), s.Accepts →
    (k.toNat ≤ 4 → exec (.haptic k r0 r1 r2 r3) s =
      .next { s with
        rumbleCmd := if k.toNat < 3 then .none else if r1 = 0#8 ∧ r2 = 0#8 then .stop
          else .set (BitVec.ofNat 16 (r2.toNat * 257)) (BitVec.ofNat 16 (r1.toNat * 257)) 500#16
        lastErr := .none }) ∧
    (k.toNat > 4 → exec (.haptic k r0 r1 r2 r3) s = .next { s with lastErr := .invalidInputLength })) ∧
  (∀ c : Command, c.op = 0x41#8 → decode c = .ok (.haptic c.vlen (c.v.l0.extractLsb' 0 8) (c.v.l1.extractLsb' 0 8)
      (c.v.l2.extractLsb' 0 8) (c.v.l3.extractLsb' 0 8)))

/-- 43_update_haptic.md R100 and R94, with its encoding: `ACKDEC` says whether byte 0 is `MINIMAL_ERR_CHAR`. -/
def Obligations.AckDecoderComparesByteZero : Prop :=
  (ackFailed [] = false ∧ ∀ (b : Byte) (l : List Byte), ackFailed (b :: l) = decide (b = Config.minimalErrChar)) ∧
  (∀ (k : BitVec 4) (r0 : Byte) (s : State), s.Accepts →
    (k.toNat ≤ 4 → exec (.ackdec k r0) s = .next { s with
      res := if 1 ≤ k.toNat ∧ r0 = Config.minimalErrChar then 1#16 else 0#16, lastErr := .none }) ∧
    (k.toNat > 4 → exec (.ackdec k r0) s = .next { s with lastErr := .invalidInputLength })) ∧
  (∀ c : Command, c.op = 0x42#8 → decode c = .ok (.ackdec c.vlen (c.v.l0.extractLsb' 0 8)))

/-- 43_update_haptic.md R101 items 1, 2 and 5: a refused `UPDATE` and one in log-only mode make no interaction; an
accepted one writes exactly 7 bytes in Minimal or 20 in Extended, then reads once; and none changes the handshake state,
the mode or the configuration. -/
def Obligations.UpdateTrafficIsFixedByTheDialect : Prop :=
  ∀ s t : State, exec .update s = .next t →
    t.hsState = s.hsState ∧ t.commMode = s.commMode ∧ t.cfgTm = s.cfgTm ∧ t.cfgNorm = s.cfgNorm ∧
    (s.hsState.negotiated = false ∨ s.commMode = .undetermined → t.trace = s.trace) ∧
    (s.hsState.negotiated = true → s.commMode = .minimal →
      ∃ l w r, l.length = 7 ∧ t.trace = s.trace ++ [Interaction.txWrite l w, Interaction.rxRead 4 r]) ∧
    (s.hsState.negotiated = true → s.commMode = .extended →
      ∃ l w r, l.length = 20 ∧
        t.trace = s.trace ++ [Interaction.txWrite l w, Interaction.rxRead 4 r] ++ rumbleCalls t.rumbleCmd)

/-- 43_update_haptic.md R97 and 60_exceptions.md R103, R119: in log-only mode, over any run without a reset, nothing is
transmitted or read and the unrecognised response stays in `rx_buf`. -/
def Obligations.LogOnlyModeNeverTransmits : Prop :=
  ∀ (k : Nat) (s t : State), s.hsState = .unknown → s.commMode = .undetermined → k ≤ s.host.length →
    (∀ a ∈ s.host.take k, a ≠ .reset) → Sys2Proof.core.run k s = .next t →
    t.trace = s.trace ∧ t.rxBuf = s.rxBuf ∧ t.rxLen = s.rxLen ∧ t.ackFail = s.ackFail

/-! ## Invariants -/

/-- Every step keeps the session invariant (10_state.md R23, R28, R29; 41_packet_builder.md R81; 43_update_haptic.md
R101), reset and every device answer included. -/
def Obligations.EveryStepKeepsTheSessionInvariant : Prop :=
  ∀ s t : State, s.Inv → step s = .next t → t.Inv

/-- The session invariant holds at reset. -/
def Obligations.ResetMeetsTheSessionInvariant : Prop :=
  State.reset.Inv

/-- In every negotiated state of the session invariant, `UPDATE` has the one frame length its terminal state names, or
none at all, and feeds the one decoder of its dialect (10_state.md R23; 43_update_haptic.md R96). -/
def Obligations.TerminalStateFixesTheFrameLength : Prop :=
  ∀ s : State, s.Inv → s.hsState.negotiated = true → ∃ t, exec .update s = .next t ∧
    ((s.hsState = .minimal ∧ t.txLen = .minimal ∧ t.rumbleCmd = s.rumbleCmd) ∨
     (s.hsState = .extended ∧ t.txLen = .extended ∧ t.ackFail = s.ackFail) ∨
     (s.hsState = .unknown ∧ t = { s with lastErr := .none }))

/-- No step changes the policy parameter (log 7). -/
def Obligations.NoStepChangesThePolicy : Prop :=
  ∀ s t : State, step s = .next t → t.probePolicy = s.probePolicy

/-! ## The host's duties -/

/-- 60_exceptions.md R115 and R118: a dutiful host's frame drains every change in order, then issues one `UPDATE` when
a change was reported or the dialect is Extended, and none otherwise (log 15). -/
def Obligations.AFrameHasAtMostOneUpdate : Prop :=
  ∀ (mode : CommMode) (events : List FrameEvent),
    let drained := events.filterMap fun e => match e with
      | .change p => some (HostAction.snapshot p)
      | .other => none
    ((mode = .extended ∨ ∃ p, .change p ∈ events) →
      frameActions mode events = drained ++ [.command (encode .update)]) ∧
    (mode ≠ .extended → (∀ p, .change p ∉ events) → frameActions mode events = [])
end

