-- ==== Sys2Proof/Laws/Codec.lean ====
section
/-! SUPPORT. The codec's arithmetic as integers: the range of a word, the clamp, and the bits of a collapse. -/

namespace Sys2Proof.Machine

/-- An `i16` lies in −32768..32767 (00_scope.md R9). -/
theorem toInt_bounds (x : Word) : -32768 ≤ x.toInt ∧ x.toInt ≤ 32767 := by
  have lo := BitVec.le_toInt x
  have hi := BitVec.toInt_lt (x := x)
  norm_num at lo hi
  omega

/-- An integer in range is the value of its pattern. -/
theorem toInt_ofInt_of_bounds (n : Int) (lo : -32768 ≤ n) (hi : n ≤ 32767) : (BitVec.ofInt 16 n).toInt = n := by
  rw [BitVec.toInt_ofInt, Int.bmod_def]
  norm_num
  split <;> omega

/-- `sat16` is the clamp (00_scope.md R11). -/
theorem sat16_toInt (n : Int) : (sat16 n).toInt = clampI16 n := by
  have min_toInt : i16Min.toInt = -32768 := by decide
  have max_toInt : i16Max.toInt = 32767 := by decide
  unfold sat16 clampI16
  split
  · rw [min_toInt]
    omega
  · split
    · rw [max_toInt]
      omega
    · rw [toInt_ofInt_of_bounds _ (by omega) (by omega)]
      omega

/-- Each bit of a collapse is its lane's (40_value_codec.md R69). -/
theorem collapseBits_bits (v : Lanes Bool) :
    (collapseBits v).getLsbD 7 = v.l0 ∧ (collapseBits v).getLsbD 6 = v.l1 ∧ (collapseBits v).getLsbD 5 = v.l2 ∧
    (collapseBits v).getLsbD 4 = v.l3 ∧ (collapseBits v).getLsbD 3 = v.l4 ∧ (collapseBits v).getLsbD 2 = v.l5 ∧
    (collapseBits v).getLsbD 1 = v.l6 ∧ (collapseBits v).getLsbD 0 = v.l7 := by
  obtain ⟨l0, l1, l2, l3, l4, l5, l6, l7⟩ := v
  revert l0 l1 l2 l3 l4 l5 l6 l7
  decide

/-- A digital input reads back from its analog form (40_value_codec.md R64). -/
theorem atb16_bta16 (p : Bool) : atb16 (bta16 p) = p := by
  cases p <;> decide

end Sys2Proof.Machine
end

