-- ==== Sys2Proof/Laws/Decode.lean ====
section
/-! SUPPORT. The port fields read back from the port's bits, and the operand forms of 30_encoding.md R50 undone. -/

namespace Sys2Proof

/-- The low byte of a zero-extended byte is that byte. -/
@[simp] theorem lowByte_zextByte (b : Byte) : lowByte (zextByte b) = b := by
  apply BitVec.eq_of_toNat_eq
  simp [lowByte, zextByte, BitVec.extractLsb'_toNat, BitVec.toNat_setWidth]
  omega

/-- Bit 0 of a flag word is the flag. -/
@[simp] theorem flagWord_bit0 (p : Bool) : (flagWord p).getLsbD 0 = p := by cases p <;> rfl

/-- Zero-extended lanes read back. -/
@[simp] theorem lanes_lowByte_zextByte (v : Lanes Byte) : (v.map zextByte).map lowByte = v := by
  cases v
  simp [Lanes.map]

/-- A field wholly above the lower operand of an append is a field of the upper one. -/
theorem field_hi {n m : Nat} (k len : Nat) (x : BitVec n) (y : BitVec m) :
    (x ++ y).extractLsb' (m + k) len = x.extractLsb' k len := by
  rw [BitVec.extractLsb'_append_eq_of_le (Nat.le_add_right m k), Nat.add_sub_cancel_left]

/-- The lower operand of an append is its low field. -/
theorem field_lo {n m : Nat} (x : BitVec n) (y : BitVec m) : (x ++ y).extractLsb' 0 m = y := by
  rw [BitVec.extractLsb'_append_eq_of_add_le (by omega), BitVec.extractLsb'_eq_self]

/-- The port's fields are read back from its bits (log 8). -/
theorem Command.ofBits_toBits (c : Command) : Command.ofBits c.toBits = c := by
  obtain ⟨op, a, b, ⟨v0, v1, v2, v3, v4, v5, v6, v7⟩, vlen⟩ := c
  simp only [Command.ofBits, Command.toBits, Command.mk.injEq, Lanes.mk.injEq]
  refine ⟨field_lo _ op, ?_, ?_, ⟨?_, ?_, ?_, ?_, ?_, ?_, ?_, ?_⟩, ?_⟩
  · exact (field_hi 0 16 _ op).trans <| field_lo _ a
  · exact (field_hi 16 16 _ op).trans <| (field_hi 0 16 _ a).trans <| field_lo _ b
  · exact (field_hi 32 16 _ op).trans <| (field_hi 16 16 _ a).trans <| (field_hi 0 16 _ b).trans <| field_lo _ v0
  · exact (field_hi 48 16 _ op).trans <| (field_hi 32 16 _ a).trans <| (field_hi 16 16 _ b).trans <|
      (field_hi 0 16 _ v0).trans <| field_lo _ v1
  · exact (field_hi 64 16 _ op).trans <| (field_hi 48 16 _ a).trans <| (field_hi 32 16 _ b).trans <|
      (field_hi 16 16 _ v0).trans <| (field_hi 0 16 _ v1).trans <| field_lo _ v2
  · exact (field_hi 80 16 _ op).trans <| (field_hi 64 16 _ a).trans <| (field_hi 48 16 _ b).trans <|
      (field_hi 32 16 _ v0).trans <| (field_hi 16 16 _ v1).trans <| (field_hi 0 16 _ v2).trans <| field_lo _ v3
  · exact (field_hi 96 16 _ op).trans <| (field_hi 80 16 _ a).trans <| (field_hi 64 16 _ b).trans <|
      (field_hi 48 16 _ v0).trans <| (field_hi 32 16 _ v1).trans <| (field_hi 16 16 _ v2).trans <|
      (field_hi 0 16 _ v3).trans <| field_lo _ v4
  · exact (field_hi 112 16 _ op).trans <| (field_hi 96 16 _ a).trans <| (field_hi 80 16 _ b).trans <|
      (field_hi 64 16 _ v0).trans <| (field_hi 48 16 _ v1).trans <| (field_hi 32 16 _ v2).trans <|
      (field_hi 16 16 _ v3).trans <| (field_hi 0 16 _ v4).trans <| field_lo _ v5
  · exact (field_hi 128 16 _ op).trans <| (field_hi 112 16 _ a).trans <| (field_hi 96 16 _ b).trans <|
      (field_hi 80 16 _ v0).trans <| (field_hi 64 16 _ v1).trans <| (field_hi 48 16 _ v2).trans <|
      (field_hi 32 16 _ v3).trans <| (field_hi 16 16 _ v4).trans <| (field_hi 0 16 _ v5).trans <| field_lo _ v6
  · exact (field_hi 144 16 _ op).trans <| (field_hi 128 16 _ a).trans <| (field_hi 112 16 _ b).trans <|
      (field_hi 96 16 _ v0).trans <| (field_hi 80 16 _ v1).trans <| (field_hi 64 16 _ v2).trans <|
      (field_hi 48 16 _ v3).trans <| (field_hi 32 16 _ v4).trans <| (field_hi 16 16 _ v5).trans <|
      (field_hi 0 16 _ v6).trans <| field_lo _ v7
  · exact (field_hi 160 4 _ op).trans <| (field_hi 144 4 _ a).trans <| (field_hi 128 4 _ b).trans <|
      (field_hi 112 4 _ v0).trans <| (field_hi 96 4 _ v1).trans <| (field_hi 80 4 _ v2).trans <|
      (field_hi 64 4 _ v3).trans <| (field_hi 48 4 _ v4).trans <| (field_hi 32 4 _ v5).trans <|
      (field_hi 16 4 _ v6).trans <| (field_hi 0 4 _ v7).trans <| BitVec.extractLsb'_eq_self

end Sys2Proof
end

