-- ==== Sys2Proof/Laws/State.lean ====
section
/-! SUPPORT. What each named update of the state leaves in each field: true by rfl, for simp. -/

namespace Sys2Proof.Machine

@[simp] theorem State.setErr_cfgTm (e : ErrCode) (s : State) : (s.setErr e).cfgTm = s.cfgTm := rfl
@[simp] theorem State.setErr_cfgNorm (e : ErrCode) (s : State) : (s.setErr e).cfgNorm = s.cfgNorm := rfl
@[simp] theorem State.setErr_hsState (e : ErrCode) (s : State) : (s.setErr e).hsState = s.hsState := rfl
@[simp] theorem State.setErr_hsVerdict (e : ErrCode) (s : State) : (s.setErr e).hsVerdict = s.hsVerdict := rfl
@[simp] theorem State.setErr_commMode (e : ErrCode) (s : State) : (s.setErr e).commMode = s.commMode := rfl
@[simp] theorem State.setErr_res (e : ErrCode) (s : State) : (s.setErr e).res = s.res := rfl
@[simp] theorem State.setErr_res2 (e : ErrCode) (s : State) : (s.setErr e).res2 = s.res2 := rfl
@[simp] theorem State.setErr_rumbleCmd (e : ErrCode) (s : State) : (s.setErr e).rumbleCmd = s.rumbleCmd := rfl
@[simp] theorem State.setErr_txFrame (e : ErrCode) (s : State) : (s.setErr e).txFrame = s.txFrame := rfl
@[simp] theorem State.setErr_txLen (e : ErrCode) (s : State) : (s.setErr e).txLen = s.txLen := rfl
@[simp] theorem State.setErr_rxBuf (e : ErrCode) (s : State) : (s.setErr e).rxBuf = s.rxBuf := rfl
@[simp] theorem State.setErr_rxLen (e : ErrCode) (s : State) : (s.setErr e).rxLen = s.rxLen := rfl
@[simp] theorem State.setErr_lastErr (e : ErrCode) (s : State) : (s.setErr e).lastErr = e := rfl
@[simp] theorem State.setErr_ackFail (e : ErrCode) (s : State) : (s.setErr e).ackFail = s.ackFail := rfl
@[simp] theorem State.setErr_snap (e : ErrCode) (s : State) : (s.setErr e).snap = s.snap := rfl
@[simp] theorem State.setErr_probePolicy (e : ErrCode) (s : State) : (s.setErr e).probePolicy = s.probePolicy := rfl
@[simp] theorem State.setErr_host (e : ErrCode) (s : State) : (s.setErr e).host = s.host := rfl
@[simp] theorem State.setErr_reads (e : ErrCode) (s : State) : (s.setErr e).reads = s.reads := rfl
@[simp] theorem State.setErr_writes (e : ErrCode) (s : State) : (s.setErr e).writes = s.writes := rfl
@[simp] theorem State.setErr_drawn (e : ErrCode) (s : State) : (s.setErr e).drawn = s.drawn := rfl
@[simp] theorem State.setErr_trace (e : ErrCode) (s : State) : (s.setErr e).trace = s.trace := rfl

@[simp] theorem State.putRes_cfgTm (w : Word) (s : State) : (s.putRes w).cfgTm = s.cfgTm := rfl
@[simp] theorem State.putRes_cfgNorm (w : Word) (s : State) : (s.putRes w).cfgNorm = s.cfgNorm := rfl
@[simp] theorem State.putRes_hsState (w : Word) (s : State) : (s.putRes w).hsState = s.hsState := rfl
@[simp] theorem State.putRes_hsVerdict (w : Word) (s : State) : (s.putRes w).hsVerdict = s.hsVerdict := rfl
@[simp] theorem State.putRes_commMode (w : Word) (s : State) : (s.putRes w).commMode = s.commMode := rfl
@[simp] theorem State.putRes_res (w : Word) (s : State) : (s.putRes w).res = w := rfl
@[simp] theorem State.putRes_res2 (w : Word) (s : State) : (s.putRes w).res2 = s.res2 := rfl
@[simp] theorem State.putRes_rumbleCmd (w : Word) (s : State) : (s.putRes w).rumbleCmd = s.rumbleCmd := rfl
@[simp] theorem State.putRes_txFrame (w : Word) (s : State) : (s.putRes w).txFrame = s.txFrame := rfl
@[simp] theorem State.putRes_txLen (w : Word) (s : State) : (s.putRes w).txLen = s.txLen := rfl
@[simp] theorem State.putRes_rxBuf (w : Word) (s : State) : (s.putRes w).rxBuf = s.rxBuf := rfl
@[simp] theorem State.putRes_rxLen (w : Word) (s : State) : (s.putRes w).rxLen = s.rxLen := rfl
@[simp] theorem State.putRes_lastErr (w : Word) (s : State) : (s.putRes w).lastErr = s.lastErr := rfl
@[simp] theorem State.putRes_ackFail (w : Word) (s : State) : (s.putRes w).ackFail = s.ackFail := rfl
@[simp] theorem State.putRes_snap (w : Word) (s : State) : (s.putRes w).snap = s.snap := rfl
@[simp] theorem State.putRes_probePolicy (w : Word) (s : State) : (s.putRes w).probePolicy = s.probePolicy := rfl
@[simp] theorem State.putRes_host (w : Word) (s : State) : (s.putRes w).host = s.host := rfl
@[simp] theorem State.putRes_reads (w : Word) (s : State) : (s.putRes w).reads = s.reads := rfl
@[simp] theorem State.putRes_writes (w : Word) (s : State) : (s.putRes w).writes = s.writes := rfl
@[simp] theorem State.putRes_drawn (w : Word) (s : State) : (s.putRes w).drawn = s.drawn := rfl
@[simp] theorem State.putRes_trace (w : Word) (s : State) : (s.putRes w).trace = s.trace := rfl

@[simp] theorem State.putResPair_cfgTm (w w2 : Word) (s : State) : (s.putResPair w w2).cfgTm = s.cfgTm := rfl
@[simp] theorem State.putResPair_cfgNorm (w w2 : Word) (s : State) : (s.putResPair w w2).cfgNorm = s.cfgNorm := rfl
@[simp] theorem State.putResPair_hsState (w w2 : Word) (s : State) : (s.putResPair w w2).hsState = s.hsState := rfl
@[simp] theorem State.putResPair_hsVerdict (w w2 : Word) (s : State) : (s.putResPair w w2).hsVerdict = s.hsVerdict := rfl
@[simp] theorem State.putResPair_commMode (w w2 : Word) (s : State) : (s.putResPair w w2).commMode = s.commMode := rfl
@[simp] theorem State.putResPair_res (w w2 : Word) (s : State) : (s.putResPair w w2).res = w := rfl
@[simp] theorem State.putResPair_res2 (w w2 : Word) (s : State) : (s.putResPair w w2).res2 = w2 := rfl
@[simp] theorem State.putResPair_rumbleCmd (w w2 : Word) (s : State) : (s.putResPair w w2).rumbleCmd = s.rumbleCmd := rfl
@[simp] theorem State.putResPair_txFrame (w w2 : Word) (s : State) : (s.putResPair w w2).txFrame = s.txFrame := rfl
@[simp] theorem State.putResPair_txLen (w w2 : Word) (s : State) : (s.putResPair w w2).txLen = s.txLen := rfl
@[simp] theorem State.putResPair_rxBuf (w w2 : Word) (s : State) : (s.putResPair w w2).rxBuf = s.rxBuf := rfl
@[simp] theorem State.putResPair_rxLen (w w2 : Word) (s : State) : (s.putResPair w w2).rxLen = s.rxLen := rfl
@[simp] theorem State.putResPair_lastErr (w w2 : Word) (s : State) : (s.putResPair w w2).lastErr = s.lastErr := rfl
@[simp] theorem State.putResPair_ackFail (w w2 : Word) (s : State) : (s.putResPair w w2).ackFail = s.ackFail := rfl
@[simp] theorem State.putResPair_snap (w w2 : Word) (s : State) : (s.putResPair w w2).snap = s.snap := rfl
@[simp] theorem State.putResPair_probePolicy (w w2 : Word) (s : State) : (s.putResPair w w2).probePolicy = s.probePolicy := rfl
@[simp] theorem State.putResPair_host (w w2 : Word) (s : State) : (s.putResPair w w2).host = s.host := rfl
@[simp] theorem State.putResPair_reads (w w2 : Word) (s : State) : (s.putResPair w w2).reads = s.reads := rfl
@[simp] theorem State.putResPair_writes (w w2 : Word) (s : State) : (s.putResPair w w2).writes = s.writes := rfl
@[simp] theorem State.putResPair_drawn (w w2 : Word) (s : State) : (s.putResPair w w2).drawn = s.drawn := rfl
@[simp] theorem State.putResPair_trace (w w2 : Word) (s : State) : (s.putResPair w w2).trace = s.trace := rfl

@[simp] theorem State.putFrame_cfgTm (f : Frame) (n : FrameLen) (s : State) : (s.putFrame f n).cfgTm = s.cfgTm := rfl
@[simp] theorem State.putFrame_cfgNorm (f : Frame) (n : FrameLen) (s : State) : (s.putFrame f n).cfgNorm = s.cfgNorm := rfl
@[simp] theorem State.putFrame_hsState (f : Frame) (n : FrameLen) (s : State) : (s.putFrame f n).hsState = s.hsState := rfl
@[simp] theorem State.putFrame_hsVerdict (f : Frame) (n : FrameLen) (s : State) : (s.putFrame f n).hsVerdict = s.hsVerdict := rfl
@[simp] theorem State.putFrame_commMode (f : Frame) (n : FrameLen) (s : State) : (s.putFrame f n).commMode = s.commMode := rfl
@[simp] theorem State.putFrame_res (f : Frame) (n : FrameLen) (s : State) : (s.putFrame f n).res = s.res := rfl
@[simp] theorem State.putFrame_res2 (f : Frame) (n : FrameLen) (s : State) : (s.putFrame f n).res2 = s.res2 := rfl
@[simp] theorem State.putFrame_rumbleCmd (f : Frame) (n : FrameLen) (s : State) : (s.putFrame f n).rumbleCmd = s.rumbleCmd := rfl
@[simp] theorem State.putFrame_txFrame (f : Frame) (n : FrameLen) (s : State) : (s.putFrame f n).txFrame = f := rfl
@[simp] theorem State.putFrame_txLen (f : Frame) (n : FrameLen) (s : State) : (s.putFrame f n).txLen = n := rfl
@[simp] theorem State.putFrame_rxBuf (f : Frame) (n : FrameLen) (s : State) : (s.putFrame f n).rxBuf = s.rxBuf := rfl
@[simp] theorem State.putFrame_rxLen (f : Frame) (n : FrameLen) (s : State) : (s.putFrame f n).rxLen = s.rxLen := rfl
@[simp] theorem State.putFrame_lastErr (f : Frame) (n : FrameLen) (s : State) : (s.putFrame f n).lastErr = s.lastErr := rfl
@[simp] theorem State.putFrame_ackFail (f : Frame) (n : FrameLen) (s : State) : (s.putFrame f n).ackFail = s.ackFail := rfl
@[simp] theorem State.putFrame_snap (f : Frame) (n : FrameLen) (s : State) : (s.putFrame f n).snap = s.snap := rfl
@[simp] theorem State.putFrame_probePolicy (f : Frame) (n : FrameLen) (s : State) : (s.putFrame f n).probePolicy = s.probePolicy := rfl
@[simp] theorem State.putFrame_host (f : Frame) (n : FrameLen) (s : State) : (s.putFrame f n).host = s.host := rfl
@[simp] theorem State.putFrame_reads (f : Frame) (n : FrameLen) (s : State) : (s.putFrame f n).reads = s.reads := rfl
@[simp] theorem State.putFrame_writes (f : Frame) (n : FrameLen) (s : State) : (s.putFrame f n).writes = s.writes := rfl
@[simp] theorem State.putFrame_drawn (f : Frame) (n : FrameLen) (s : State) : (s.putFrame f n).drawn = s.drawn := rfl
@[simp] theorem State.putFrame_trace (f : Frame) (n : FrameLen) (s : State) : (s.putFrame f n).trace = s.trace := rfl

@[simp] theorem State.putResponse_cfgTm (l : List Byte) (s : State) : (s.putResponse l).cfgTm = s.cfgTm := rfl
@[simp] theorem State.putResponse_cfgNorm (l : List Byte) (s : State) : (s.putResponse l).cfgNorm = s.cfgNorm := rfl
@[simp] theorem State.putResponse_hsState (l : List Byte) (s : State) : (s.putResponse l).hsState = s.hsState := rfl
@[simp] theorem State.putResponse_hsVerdict (l : List Byte) (s : State) : (s.putResponse l).hsVerdict = s.hsVerdict := rfl
@[simp] theorem State.putResponse_commMode (l : List Byte) (s : State) : (s.putResponse l).commMode = s.commMode := rfl
@[simp] theorem State.putResponse_res (l : List Byte) (s : State) : (s.putResponse l).res = s.res := rfl
@[simp] theorem State.putResponse_res2 (l : List Byte) (s : State) : (s.putResponse l).res2 = s.res2 := rfl
@[simp] theorem State.putResponse_rumbleCmd (l : List Byte) (s : State) : (s.putResponse l).rumbleCmd = s.rumbleCmd := rfl
@[simp] theorem State.putResponse_txFrame (l : List Byte) (s : State) : (s.putResponse l).txFrame = s.txFrame := rfl
@[simp] theorem State.putResponse_txLen (l : List Byte) (s : State) : (s.putResponse l).txLen = s.txLen := rfl
@[simp] theorem State.putResponse_rxBuf (l : List Byte) (s : State) : (s.putResponse l).rxBuf = rxBufOf l := rfl
@[simp] theorem State.putResponse_rxLen (l : List Byte) (s : State) : (s.putResponse l).rxLen = rxLenOf l := rfl
@[simp] theorem State.putResponse_lastErr (l : List Byte) (s : State) : (s.putResponse l).lastErr = s.lastErr := rfl
@[simp] theorem State.putResponse_ackFail (l : List Byte) (s : State) : (s.putResponse l).ackFail = s.ackFail := rfl
@[simp] theorem State.putResponse_snap (l : List Byte) (s : State) : (s.putResponse l).snap = s.snap := rfl
@[simp] theorem State.putResponse_probePolicy (l : List Byte) (s : State) : (s.putResponse l).probePolicy = s.probePolicy := rfl
@[simp] theorem State.putResponse_host (l : List Byte) (s : State) : (s.putResponse l).host = s.host := rfl
@[simp] theorem State.putResponse_reads (l : List Byte) (s : State) : (s.putResponse l).reads = s.reads := rfl
@[simp] theorem State.putResponse_writes (l : List Byte) (s : State) : (s.putResponse l).writes = s.writes := rfl
@[simp] theorem State.putResponse_drawn (l : List Byte) (s : State) : (s.putResponse l).drawn = s.drawn := rfl
@[simp] theorem State.putResponse_trace (l : List Byte) (s : State) : (s.putResponse l).trace = s.trace := rfl

@[simp] theorem State.putRumble_cfgTm (c : RumbleCmd) (s : State) : (s.putRumble c).cfgTm = s.cfgTm := rfl
@[simp] theorem State.putRumble_cfgNorm (c : RumbleCmd) (s : State) : (s.putRumble c).cfgNorm = s.cfgNorm := rfl
@[simp] theorem State.putRumble_hsState (c : RumbleCmd) (s : State) : (s.putRumble c).hsState = s.hsState := rfl
@[simp] theorem State.putRumble_hsVerdict (c : RumbleCmd) (s : State) : (s.putRumble c).hsVerdict = s.hsVerdict := rfl
@[simp] theorem State.putRumble_commMode (c : RumbleCmd) (s : State) : (s.putRumble c).commMode = s.commMode := rfl
@[simp] theorem State.putRumble_res (c : RumbleCmd) (s : State) : (s.putRumble c).res = s.res := rfl
@[simp] theorem State.putRumble_res2 (c : RumbleCmd) (s : State) : (s.putRumble c).res2 = s.res2 := rfl
@[simp] theorem State.putRumble_rumbleCmd (c : RumbleCmd) (s : State) : (s.putRumble c).rumbleCmd = c := rfl
@[simp] theorem State.putRumble_txFrame (c : RumbleCmd) (s : State) : (s.putRumble c).txFrame = s.txFrame := rfl
@[simp] theorem State.putRumble_txLen (c : RumbleCmd) (s : State) : (s.putRumble c).txLen = s.txLen := rfl
@[simp] theorem State.putRumble_rxBuf (c : RumbleCmd) (s : State) : (s.putRumble c).rxBuf = s.rxBuf := rfl
@[simp] theorem State.putRumble_rxLen (c : RumbleCmd) (s : State) : (s.putRumble c).rxLen = s.rxLen := rfl
@[simp] theorem State.putRumble_lastErr (c : RumbleCmd) (s : State) : (s.putRumble c).lastErr = s.lastErr := rfl
@[simp] theorem State.putRumble_ackFail (c : RumbleCmd) (s : State) : (s.putRumble c).ackFail = s.ackFail := rfl
@[simp] theorem State.putRumble_snap (c : RumbleCmd) (s : State) : (s.putRumble c).snap = s.snap := rfl
@[simp] theorem State.putRumble_probePolicy (c : RumbleCmd) (s : State) : (s.putRumble c).probePolicy = s.probePolicy := rfl
@[simp] theorem State.putRumble_host (c : RumbleCmd) (s : State) : (s.putRumble c).host = s.host := rfl
@[simp] theorem State.putRumble_reads (c : RumbleCmd) (s : State) : (s.putRumble c).reads = s.reads := rfl
@[simp] theorem State.putRumble_writes (c : RumbleCmd) (s : State) : (s.putRumble c).writes = s.writes := rfl
@[simp] theorem State.putRumble_drawn (c : RumbleCmd) (s : State) : (s.putRumble c).drawn = s.drawn := rfl
@[simp] theorem State.putRumble_trace (c : RumbleCmd) (s : State) : (s.putRumble c).trace = s.trace := rfl

@[simp] theorem State.putAck_cfgTm (b : Bool) (s : State) : (s.putAck b).cfgTm = s.cfgTm := rfl
@[simp] theorem State.putAck_cfgNorm (b : Bool) (s : State) : (s.putAck b).cfgNorm = s.cfgNorm := rfl
@[simp] theorem State.putAck_hsState (b : Bool) (s : State) : (s.putAck b).hsState = s.hsState := rfl
@[simp] theorem State.putAck_hsVerdict (b : Bool) (s : State) : (s.putAck b).hsVerdict = s.hsVerdict := rfl
@[simp] theorem State.putAck_commMode (b : Bool) (s : State) : (s.putAck b).commMode = s.commMode := rfl
@[simp] theorem State.putAck_res (b : Bool) (s : State) : (s.putAck b).res = s.res := rfl
@[simp] theorem State.putAck_res2 (b : Bool) (s : State) : (s.putAck b).res2 = s.res2 := rfl
@[simp] theorem State.putAck_rumbleCmd (b : Bool) (s : State) : (s.putAck b).rumbleCmd = s.rumbleCmd := rfl
@[simp] theorem State.putAck_txFrame (b : Bool) (s : State) : (s.putAck b).txFrame = s.txFrame := rfl
@[simp] theorem State.putAck_txLen (b : Bool) (s : State) : (s.putAck b).txLen = s.txLen := rfl
@[simp] theorem State.putAck_rxBuf (b : Bool) (s : State) : (s.putAck b).rxBuf = s.rxBuf := rfl
@[simp] theorem State.putAck_rxLen (b : Bool) (s : State) : (s.putAck b).rxLen = s.rxLen := rfl
@[simp] theorem State.putAck_lastErr (b : Bool) (s : State) : (s.putAck b).lastErr = s.lastErr := rfl
@[simp] theorem State.putAck_ackFail (b : Bool) (s : State) : (s.putAck b).ackFail = b := rfl
@[simp] theorem State.putAck_snap (b : Bool) (s : State) : (s.putAck b).snap = s.snap := rfl
@[simp] theorem State.putAck_probePolicy (b : Bool) (s : State) : (s.putAck b).probePolicy = s.probePolicy := rfl
@[simp] theorem State.putAck_host (b : Bool) (s : State) : (s.putAck b).host = s.host := rfl
@[simp] theorem State.putAck_reads (b : Bool) (s : State) : (s.putAck b).reads = s.reads := rfl
@[simp] theorem State.putAck_writes (b : Bool) (s : State) : (s.putAck b).writes = s.writes := rfl
@[simp] theorem State.putAck_drawn (b : Bool) (s : State) : (s.putAck b).drawn = s.drawn := rfl
@[simp] theorem State.putAck_trace (b : Bool) (s : State) : (s.putAck b).trace = s.trace := rfl

@[simp] theorem State.putConfig_cfgTm (tm : TriggerMode) (n : Bool) (s : State) : (s.putConfig tm n).cfgTm = tm := rfl
@[simp] theorem State.putConfig_cfgNorm (tm : TriggerMode) (n : Bool) (s : State) : (s.putConfig tm n).cfgNorm = n := rfl
@[simp] theorem State.putConfig_hsState (tm : TriggerMode) (n : Bool) (s : State) : (s.putConfig tm n).hsState = s.hsState := rfl
@[simp] theorem State.putConfig_hsVerdict (tm : TriggerMode) (n : Bool) (s : State) : (s.putConfig tm n).hsVerdict = s.hsVerdict := rfl
@[simp] theorem State.putConfig_commMode (tm : TriggerMode) (n : Bool) (s : State) : (s.putConfig tm n).commMode = s.commMode := rfl
@[simp] theorem State.putConfig_res (tm : TriggerMode) (n : Bool) (s : State) : (s.putConfig tm n).res = s.res := rfl
@[simp] theorem State.putConfig_res2 (tm : TriggerMode) (n : Bool) (s : State) : (s.putConfig tm n).res2 = s.res2 := rfl
@[simp] theorem State.putConfig_rumbleCmd (tm : TriggerMode) (n : Bool) (s : State) : (s.putConfig tm n).rumbleCmd = s.rumbleCmd := rfl
@[simp] theorem State.putConfig_txFrame (tm : TriggerMode) (n : Bool) (s : State) : (s.putConfig tm n).txFrame = s.txFrame := rfl
@[simp] theorem State.putConfig_txLen (tm : TriggerMode) (n : Bool) (s : State) : (s.putConfig tm n).txLen = s.txLen := rfl
@[simp] theorem State.putConfig_rxBuf (tm : TriggerMode) (n : Bool) (s : State) : (s.putConfig tm n).rxBuf = s.rxBuf := rfl
@[simp] theorem State.putConfig_rxLen (tm : TriggerMode) (n : Bool) (s : State) : (s.putConfig tm n).rxLen = s.rxLen := rfl
@[simp] theorem State.putConfig_lastErr (tm : TriggerMode) (n : Bool) (s : State) : (s.putConfig tm n).lastErr = s.lastErr := rfl
@[simp] theorem State.putConfig_ackFail (tm : TriggerMode) (n : Bool) (s : State) : (s.putConfig tm n).ackFail = s.ackFail := rfl
@[simp] theorem State.putConfig_snap (tm : TriggerMode) (n : Bool) (s : State) : (s.putConfig tm n).snap = s.snap := rfl
@[simp] theorem State.putConfig_probePolicy (tm : TriggerMode) (n : Bool) (s : State) : (s.putConfig tm n).probePolicy = s.probePolicy := rfl
@[simp] theorem State.putConfig_host (tm : TriggerMode) (n : Bool) (s : State) : (s.putConfig tm n).host = s.host := rfl
@[simp] theorem State.putConfig_reads (tm : TriggerMode) (n : Bool) (s : State) : (s.putConfig tm n).reads = s.reads := rfl
@[simp] theorem State.putConfig_writes (tm : TriggerMode) (n : Bool) (s : State) : (s.putConfig tm n).writes = s.writes := rfl
@[simp] theorem State.putConfig_drawn (tm : TriggerMode) (n : Bool) (s : State) : (s.putConfig tm n).drawn = s.drawn := rfl
@[simp] theorem State.putConfig_trace (tm : TriggerMode) (n : Bool) (s : State) : (s.putConfig tm n).trace = s.trace := rfl

@[simp] theorem State.enter_cfgTm (h : HsState) (s : State) : (s.enter h).cfgTm = s.cfgTm := rfl
@[simp] theorem State.enter_cfgNorm (h : HsState) (s : State) : (s.enter h).cfgNorm = s.cfgNorm := rfl
@[simp] theorem State.enter_hsState (h : HsState) (s : State) : (s.enter h).hsState = h := rfl
@[simp] theorem State.enter_hsVerdict (h : HsState) (s : State) : (s.enter h).hsVerdict = s.hsVerdict := rfl
@[simp] theorem State.enter_commMode (h : HsState) (s : State) : (s.enter h).commMode = s.commMode := rfl
@[simp] theorem State.enter_res (h : HsState) (s : State) : (s.enter h).res = s.res := rfl
@[simp] theorem State.enter_res2 (h : HsState) (s : State) : (s.enter h).res2 = s.res2 := rfl
@[simp] theorem State.enter_rumbleCmd (h : HsState) (s : State) : (s.enter h).rumbleCmd = s.rumbleCmd := rfl
@[simp] theorem State.enter_txFrame (h : HsState) (s : State) : (s.enter h).txFrame = s.txFrame := rfl
@[simp] theorem State.enter_txLen (h : HsState) (s : State) : (s.enter h).txLen = s.txLen := rfl
@[simp] theorem State.enter_rxBuf (h : HsState) (s : State) : (s.enter h).rxBuf = s.rxBuf := rfl
@[simp] theorem State.enter_rxLen (h : HsState) (s : State) : (s.enter h).rxLen = s.rxLen := rfl
@[simp] theorem State.enter_lastErr (h : HsState) (s : State) : (s.enter h).lastErr = s.lastErr := rfl
@[simp] theorem State.enter_ackFail (h : HsState) (s : State) : (s.enter h).ackFail = s.ackFail := rfl
@[simp] theorem State.enter_snap (h : HsState) (s : State) : (s.enter h).snap = s.snap := rfl
@[simp] theorem State.enter_probePolicy (h : HsState) (s : State) : (s.enter h).probePolicy = s.probePolicy := rfl
@[simp] theorem State.enter_host (h : HsState) (s : State) : (s.enter h).host = s.host := rfl
@[simp] theorem State.enter_reads (h : HsState) (s : State) : (s.enter h).reads = s.reads := rfl
@[simp] theorem State.enter_writes (h : HsState) (s : State) : (s.enter h).writes = s.writes := rfl
@[simp] theorem State.enter_drawn (h : HsState) (s : State) : (s.enter h).drawn = s.drawn := rfl
@[simp] theorem State.enter_trace (h : HsState) (s : State) : (s.enter h).trace = s.trace := rfl

@[simp] theorem State.putVerdict_cfgTm (m : CommMode) (s : State) : (s.putVerdict m).cfgTm = s.cfgTm := rfl
@[simp] theorem State.putVerdict_cfgNorm (m : CommMode) (s : State) : (s.putVerdict m).cfgNorm = s.cfgNorm := rfl
@[simp] theorem State.putVerdict_hsState (m : CommMode) (s : State) : (s.putVerdict m).hsState = s.hsState := rfl
@[simp] theorem State.putVerdict_hsVerdict (m : CommMode) (s : State) : (s.putVerdict m).hsVerdict = m := rfl
@[simp] theorem State.putVerdict_commMode (m : CommMode) (s : State) : (s.putVerdict m).commMode = s.commMode := rfl
@[simp] theorem State.putVerdict_res (m : CommMode) (s : State) : (s.putVerdict m).res = s.res := rfl
@[simp] theorem State.putVerdict_res2 (m : CommMode) (s : State) : (s.putVerdict m).res2 = s.res2 := rfl
@[simp] theorem State.putVerdict_rumbleCmd (m : CommMode) (s : State) : (s.putVerdict m).rumbleCmd = s.rumbleCmd := rfl
@[simp] theorem State.putVerdict_txFrame (m : CommMode) (s : State) : (s.putVerdict m).txFrame = s.txFrame := rfl
@[simp] theorem State.putVerdict_txLen (m : CommMode) (s : State) : (s.putVerdict m).txLen = s.txLen := rfl
@[simp] theorem State.putVerdict_rxBuf (m : CommMode) (s : State) : (s.putVerdict m).rxBuf = s.rxBuf := rfl
@[simp] theorem State.putVerdict_rxLen (m : CommMode) (s : State) : (s.putVerdict m).rxLen = s.rxLen := rfl
@[simp] theorem State.putVerdict_lastErr (m : CommMode) (s : State) : (s.putVerdict m).lastErr = s.lastErr := rfl
@[simp] theorem State.putVerdict_ackFail (m : CommMode) (s : State) : (s.putVerdict m).ackFail = s.ackFail := rfl
@[simp] theorem State.putVerdict_snap (m : CommMode) (s : State) : (s.putVerdict m).snap = s.snap := rfl
@[simp] theorem State.putVerdict_probePolicy (m : CommMode) (s : State) : (s.putVerdict m).probePolicy = s.probePolicy := rfl
@[simp] theorem State.putVerdict_host (m : CommMode) (s : State) : (s.putVerdict m).host = s.host := rfl
@[simp] theorem State.putVerdict_reads (m : CommMode) (s : State) : (s.putVerdict m).reads = s.reads := rfl
@[simp] theorem State.putVerdict_writes (m : CommMode) (s : State) : (s.putVerdict m).writes = s.writes := rfl
@[simp] theorem State.putVerdict_drawn (m : CommMode) (s : State) : (s.putVerdict m).drawn = s.drawn := rfl
@[simp] theorem State.putVerdict_trace (m : CommMode) (s : State) : (s.putVerdict m).trace = s.trace := rfl

@[simp] theorem State.putMode_cfgTm (m : CommMode) (s : State) : (s.putMode m).cfgTm = s.cfgTm := rfl
@[simp] theorem State.putMode_cfgNorm (m : CommMode) (s : State) : (s.putMode m).cfgNorm = s.cfgNorm := rfl
@[simp] theorem State.putMode_hsState (m : CommMode) (s : State) : (s.putMode m).hsState = s.hsState := rfl
@[simp] theorem State.putMode_hsVerdict (m : CommMode) (s : State) : (s.putMode m).hsVerdict = s.hsVerdict := rfl
@[simp] theorem State.putMode_commMode (m : CommMode) (s : State) : (s.putMode m).commMode = m := rfl
@[simp] theorem State.putMode_res (m : CommMode) (s : State) : (s.putMode m).res = s.res := rfl
@[simp] theorem State.putMode_res2 (m : CommMode) (s : State) : (s.putMode m).res2 = s.res2 := rfl
@[simp] theorem State.putMode_rumbleCmd (m : CommMode) (s : State) : (s.putMode m).rumbleCmd = s.rumbleCmd := rfl
@[simp] theorem State.putMode_txFrame (m : CommMode) (s : State) : (s.putMode m).txFrame = s.txFrame := rfl
@[simp] theorem State.putMode_txLen (m : CommMode) (s : State) : (s.putMode m).txLen = s.txLen := rfl
@[simp] theorem State.putMode_rxBuf (m : CommMode) (s : State) : (s.putMode m).rxBuf = s.rxBuf := rfl
@[simp] theorem State.putMode_rxLen (m : CommMode) (s : State) : (s.putMode m).rxLen = s.rxLen := rfl
@[simp] theorem State.putMode_lastErr (m : CommMode) (s : State) : (s.putMode m).lastErr = s.lastErr := rfl
@[simp] theorem State.putMode_ackFail (m : CommMode) (s : State) : (s.putMode m).ackFail = s.ackFail := rfl
@[simp] theorem State.putMode_snap (m : CommMode) (s : State) : (s.putMode m).snap = s.snap := rfl
@[simp] theorem State.putMode_probePolicy (m : CommMode) (s : State) : (s.putMode m).probePolicy = s.probePolicy := rfl
@[simp] theorem State.putMode_host (m : CommMode) (s : State) : (s.putMode m).host = s.host := rfl
@[simp] theorem State.putMode_reads (m : CommMode) (s : State) : (s.putMode m).reads = s.reads := rfl
@[simp] theorem State.putMode_writes (m : CommMode) (s : State) : (s.putMode m).writes = s.writes := rfl
@[simp] theorem State.putMode_drawn (m : CommMode) (s : State) : (s.putMode m).drawn = s.drawn := rfl
@[simp] theorem State.putMode_trace (m : CommMode) (s : State) : (s.putMode m).trace = s.trace := rfl

@[simp] theorem State.drive_cfgTm (p : Snapshot) (s : State) : (s.drive p).cfgTm = s.cfgTm := rfl
@[simp] theorem State.drive_cfgNorm (p : Snapshot) (s : State) : (s.drive p).cfgNorm = s.cfgNorm := rfl
@[simp] theorem State.drive_hsState (p : Snapshot) (s : State) : (s.drive p).hsState = s.hsState := rfl
@[simp] theorem State.drive_hsVerdict (p : Snapshot) (s : State) : (s.drive p).hsVerdict = s.hsVerdict := rfl
@[simp] theorem State.drive_commMode (p : Snapshot) (s : State) : (s.drive p).commMode = s.commMode := rfl
@[simp] theorem State.drive_res (p : Snapshot) (s : State) : (s.drive p).res = s.res := rfl
@[simp] theorem State.drive_res2 (p : Snapshot) (s : State) : (s.drive p).res2 = s.res2 := rfl
@[simp] theorem State.drive_rumbleCmd (p : Snapshot) (s : State) : (s.drive p).rumbleCmd = s.rumbleCmd := rfl
@[simp] theorem State.drive_txFrame (p : Snapshot) (s : State) : (s.drive p).txFrame = s.txFrame := rfl
@[simp] theorem State.drive_txLen (p : Snapshot) (s : State) : (s.drive p).txLen = s.txLen := rfl
@[simp] theorem State.drive_rxBuf (p : Snapshot) (s : State) : (s.drive p).rxBuf = s.rxBuf := rfl
@[simp] theorem State.drive_rxLen (p : Snapshot) (s : State) : (s.drive p).rxLen = s.rxLen := rfl
@[simp] theorem State.drive_lastErr (p : Snapshot) (s : State) : (s.drive p).lastErr = s.lastErr := rfl
@[simp] theorem State.drive_ackFail (p : Snapshot) (s : State) : (s.drive p).ackFail = s.ackFail := rfl
@[simp] theorem State.drive_snap (p : Snapshot) (s : State) : (s.drive p).snap = p := rfl
@[simp] theorem State.drive_probePolicy (p : Snapshot) (s : State) : (s.drive p).probePolicy = s.probePolicy := rfl
@[simp] theorem State.drive_host (p : Snapshot) (s : State) : (s.drive p).host = s.host := rfl
@[simp] theorem State.drive_reads (p : Snapshot) (s : State) : (s.drive p).reads = s.reads := rfl
@[simp] theorem State.drive_writes (p : Snapshot) (s : State) : (s.drive p).writes = s.writes := rfl
@[simp] theorem State.drive_drawn (p : Snapshot) (s : State) : (s.drive p).drawn = s.drawn := rfl
@[simp] theorem State.drive_trace (p : Snapshot) (s : State) : (s.drive p).trace = s.trace := rfl

@[simp] theorem State.record_cfgTm (e : Interaction) (s : State) : (s.record e).cfgTm = s.cfgTm := rfl
@[simp] theorem State.record_cfgNorm (e : Interaction) (s : State) : (s.record e).cfgNorm = s.cfgNorm := rfl
@[simp] theorem State.record_hsState (e : Interaction) (s : State) : (s.record e).hsState = s.hsState := rfl
@[simp] theorem State.record_hsVerdict (e : Interaction) (s : State) : (s.record e).hsVerdict = s.hsVerdict := rfl
@[simp] theorem State.record_commMode (e : Interaction) (s : State) : (s.record e).commMode = s.commMode := rfl
@[simp] theorem State.record_res (e : Interaction) (s : State) : (s.record e).res = s.res := rfl
@[simp] theorem State.record_res2 (e : Interaction) (s : State) : (s.record e).res2 = s.res2 := rfl
@[simp] theorem State.record_rumbleCmd (e : Interaction) (s : State) : (s.record e).rumbleCmd = s.rumbleCmd := rfl
@[simp] theorem State.record_txFrame (e : Interaction) (s : State) : (s.record e).txFrame = s.txFrame := rfl
@[simp] theorem State.record_txLen (e : Interaction) (s : State) : (s.record e).txLen = s.txLen := rfl
@[simp] theorem State.record_rxBuf (e : Interaction) (s : State) : (s.record e).rxBuf = s.rxBuf := rfl
@[simp] theorem State.record_rxLen (e : Interaction) (s : State) : (s.record e).rxLen = s.rxLen := rfl
@[simp] theorem State.record_lastErr (e : Interaction) (s : State) : (s.record e).lastErr = s.lastErr := rfl
@[simp] theorem State.record_ackFail (e : Interaction) (s : State) : (s.record e).ackFail = s.ackFail := rfl
@[simp] theorem State.record_snap (e : Interaction) (s : State) : (s.record e).snap = s.snap := rfl
@[simp] theorem State.record_probePolicy (e : Interaction) (s : State) : (s.record e).probePolicy = s.probePolicy := rfl
@[simp] theorem State.record_host (e : Interaction) (s : State) : (s.record e).host = s.host := rfl
@[simp] theorem State.record_reads (e : Interaction) (s : State) : (s.record e).reads = s.reads := rfl
@[simp] theorem State.record_writes (e : Interaction) (s : State) : (s.record e).writes = s.writes := rfl
@[simp] theorem State.record_drawn (e : Interaction) (s : State) : (s.record e).drawn = s.drawn := rfl
@[simp] theorem State.record_trace (e : Interaction) (s : State) : (s.record e).trace = s.trace ++ [e] := rfl

@[simp] theorem State.fatal_cfgTm (e : ErrCode) (s : State) : (s.fatal e).cfgTm = s.cfgTm := rfl
@[simp] theorem State.fatal_cfgNorm (e : ErrCode) (s : State) : (s.fatal e).cfgNorm = s.cfgNorm := rfl
@[simp] theorem State.fatal_hsState (e : ErrCode) (s : State) : (s.fatal e).hsState = .aborted := rfl
@[simp] theorem State.fatal_hsVerdict (e : ErrCode) (s : State) : (s.fatal e).hsVerdict = s.hsVerdict := rfl
@[simp] theorem State.fatal_commMode (e : ErrCode) (s : State) : (s.fatal e).commMode = s.commMode := rfl
@[simp] theorem State.fatal_res (e : ErrCode) (s : State) : (s.fatal e).res = s.res := rfl
@[simp] theorem State.fatal_res2 (e : ErrCode) (s : State) : (s.fatal e).res2 = s.res2 := rfl
@[simp] theorem State.fatal_rumbleCmd (e : ErrCode) (s : State) : (s.fatal e).rumbleCmd = s.rumbleCmd := rfl
@[simp] theorem State.fatal_txFrame (e : ErrCode) (s : State) : (s.fatal e).txFrame = s.txFrame := rfl
@[simp] theorem State.fatal_txLen (e : ErrCode) (s : State) : (s.fatal e).txLen = s.txLen := rfl
@[simp] theorem State.fatal_rxBuf (e : ErrCode) (s : State) : (s.fatal e).rxBuf = s.rxBuf := rfl
@[simp] theorem State.fatal_rxLen (e : ErrCode) (s : State) : (s.fatal e).rxLen = s.rxLen := rfl
@[simp] theorem State.fatal_lastErr (e : ErrCode) (s : State) : (s.fatal e).lastErr = e := rfl
@[simp] theorem State.fatal_ackFail (e : ErrCode) (s : State) : (s.fatal e).ackFail = s.ackFail := rfl
@[simp] theorem State.fatal_snap (e : ErrCode) (s : State) : (s.fatal e).snap = s.snap := rfl
@[simp] theorem State.fatal_probePolicy (e : ErrCode) (s : State) : (s.fatal e).probePolicy = s.probePolicy := rfl
@[simp] theorem State.fatal_host (e : ErrCode) (s : State) : (s.fatal e).host = s.host := rfl
@[simp] theorem State.fatal_reads (e : ErrCode) (s : State) : (s.fatal e).reads = s.reads := rfl
@[simp] theorem State.fatal_writes (e : ErrCode) (s : State) : (s.fatal e).writes = s.writes := rfl
@[simp] theorem State.fatal_drawn (e : ErrCode) (s : State) : (s.fatal e).drawn = s.drawn := rfl
@[simp] theorem State.fatal_trace (e : ErrCode) (s : State) : (s.fatal e).trace = s.trace := rfl

@[simp] theorem State.sessionReset_cfgTm (s : State) : s.sessionReset.cfgTm = .normal := rfl
@[simp] theorem State.sessionReset_cfgNorm (s : State) : s.sessionReset.cfgNorm = false := rfl
@[simp] theorem State.sessionReset_hsState (s : State) : s.sessionReset.hsState = .start := rfl
@[simp] theorem State.sessionReset_hsVerdict (s : State) : s.sessionReset.hsVerdict = .undetermined := rfl
@[simp] theorem State.sessionReset_commMode (s : State) : s.sessionReset.commMode = .undetermined := rfl
@[simp] theorem State.sessionReset_res (s : State) : s.sessionReset.res = 0#16 := rfl
@[simp] theorem State.sessionReset_res2 (s : State) : s.sessionReset.res2 = 0#16 := rfl
@[simp] theorem State.sessionReset_rumbleCmd (s : State) : s.sessionReset.rumbleCmd = .none := rfl
@[simp] theorem State.sessionReset_txFrame (s : State) : s.sessionReset.txFrame = Frame.zero := rfl
@[simp] theorem State.sessionReset_txLen (s : State) : s.sessionReset.txLen = .empty := rfl
@[simp] theorem State.sessionReset_rxBuf (s : State) : s.sessionReset.rxBuf = ⟨0#8, 0#8, 0#8, 0#8⟩ := rfl
@[simp] theorem State.sessionReset_rxLen (s : State) : s.sessionReset.rxLen = 0 := rfl
@[simp] theorem State.sessionReset_lastErr (s : State) : s.sessionReset.lastErr = .none := rfl
@[simp] theorem State.sessionReset_ackFail (s : State) : s.sessionReset.ackFail = false := rfl
@[simp] theorem State.sessionReset_snap (s : State) : s.sessionReset.snap = s.snap := rfl
@[simp] theorem State.sessionReset_probePolicy (s : State) : s.sessionReset.probePolicy = s.probePolicy := rfl
@[simp] theorem State.sessionReset_host (s : State) : s.sessionReset.host = s.host := rfl
@[simp] theorem State.sessionReset_reads (s : State) : s.sessionReset.reads = s.reads := rfl
@[simp] theorem State.sessionReset_writes (s : State) : s.sessionReset.writes = s.writes := rfl
@[simp] theorem State.sessionReset_drawn (s : State) : s.sessionReset.drawn = s.drawn := rfl
@[simp] theorem State.sessionReset_trace (s : State) : s.sessionReset.trace = s.trace := rfl

end Sys2Proof.Machine
end

