-- ==== Sys2Proof/Laws/Ops.lean ====
section
/-! SUPPORT. What each shared operation can do, said once: the transport, the host's queue, rumble calls, the common
checks, the FSM steps. Later proofs cite these instead of unfolding the operations. -/

namespace Sys2Proof.Machine

/-- Taking one answer changes `reads` and `drawn`, and nothing else. -/
theorem State.dropRead_eq (s : State) : s.dropRead = { s with reads := s.reads.tail, drawn := s.dropRead.drawn } := by
  unfold State.dropRead
  cases h : s.reads <;> simp

@[simp] theorem State.dropRead_cfgTm (s : State) : s.dropRead.cfgTm = s.cfgTm := by rw [State.dropRead_eq]
@[simp] theorem State.dropRead_cfgNorm (s : State) : s.dropRead.cfgNorm = s.cfgNorm := by rw [State.dropRead_eq]
@[simp] theorem State.dropRead_hsState (s : State) : s.dropRead.hsState = s.hsState := by rw [State.dropRead_eq]
@[simp] theorem State.dropRead_hsVerdict (s : State) : s.dropRead.hsVerdict = s.hsVerdict := by rw [State.dropRead_eq]
@[simp] theorem State.dropRead_commMode (s : State) : s.dropRead.commMode = s.commMode := by rw [State.dropRead_eq]
@[simp] theorem State.dropRead_res (s : State) : s.dropRead.res = s.res := by rw [State.dropRead_eq]
@[simp] theorem State.dropRead_res2 (s : State) : s.dropRead.res2 = s.res2 := by rw [State.dropRead_eq]
@[simp] theorem State.dropRead_rumbleCmd (s : State) : s.dropRead.rumbleCmd = s.rumbleCmd := by rw [State.dropRead_eq]
@[simp] theorem State.dropRead_txFrame (s : State) : s.dropRead.txFrame = s.txFrame := by rw [State.dropRead_eq]
@[simp] theorem State.dropRead_txLen (s : State) : s.dropRead.txLen = s.txLen := by rw [State.dropRead_eq]
@[simp] theorem State.dropRead_rxBuf (s : State) : s.dropRead.rxBuf = s.rxBuf := by rw [State.dropRead_eq]
@[simp] theorem State.dropRead_rxLen (s : State) : s.dropRead.rxLen = s.rxLen := by rw [State.dropRead_eq]
@[simp] theorem State.dropRead_lastErr (s : State) : s.dropRead.lastErr = s.lastErr := by rw [State.dropRead_eq]
@[simp] theorem State.dropRead_ackFail (s : State) : s.dropRead.ackFail = s.ackFail := by rw [State.dropRead_eq]
@[simp] theorem State.dropRead_snap (s : State) : s.dropRead.snap = s.snap := by rw [State.dropRead_eq]
@[simp] theorem State.dropRead_probePolicy (s : State) : s.dropRead.probePolicy = s.probePolicy := by rw [State.dropRead_eq]
@[simp] theorem State.dropRead_host (s : State) : s.dropRead.host = s.host := by rw [State.dropRead_eq]
@[simp] theorem State.dropRead_reads (s : State) : s.dropRead.reads = s.reads.tail := by rw [State.dropRead_eq]
@[simp] theorem State.dropRead_writes (s : State) : s.dropRead.writes = s.writes := by rw [State.dropRead_eq]
@[simp] theorem State.dropRead_trace (s : State) : s.dropRead.trace = s.trace := by rw [State.dropRead_eq]

/-- Taking one answer changes `writes` and `drawn`, and nothing else. -/
theorem State.dropWrite_eq (s : State) : s.dropWrite = { s with writes := s.writes.tail, drawn := s.dropWrite.drawn } := by
  unfold State.dropWrite
  cases h : s.writes <;> simp

@[simp] theorem State.dropWrite_cfgTm (s : State) : s.dropWrite.cfgTm = s.cfgTm := by rw [State.dropWrite_eq]
@[simp] theorem State.dropWrite_cfgNorm (s : State) : s.dropWrite.cfgNorm = s.cfgNorm := by rw [State.dropWrite_eq]
@[simp] theorem State.dropWrite_hsState (s : State) : s.dropWrite.hsState = s.hsState := by rw [State.dropWrite_eq]
@[simp] theorem State.dropWrite_hsVerdict (s : State) : s.dropWrite.hsVerdict = s.hsVerdict := by rw [State.dropWrite_eq]
@[simp] theorem State.dropWrite_commMode (s : State) : s.dropWrite.commMode = s.commMode := by rw [State.dropWrite_eq]
@[simp] theorem State.dropWrite_res (s : State) : s.dropWrite.res = s.res := by rw [State.dropWrite_eq]
@[simp] theorem State.dropWrite_res2 (s : State) : s.dropWrite.res2 = s.res2 := by rw [State.dropWrite_eq]
@[simp] theorem State.dropWrite_rumbleCmd (s : State) : s.dropWrite.rumbleCmd = s.rumbleCmd := by rw [State.dropWrite_eq]
@[simp] theorem State.dropWrite_txFrame (s : State) : s.dropWrite.txFrame = s.txFrame := by rw [State.dropWrite_eq]
@[simp] theorem State.dropWrite_txLen (s : State) : s.dropWrite.txLen = s.txLen := by rw [State.dropWrite_eq]
@[simp] theorem State.dropWrite_rxBuf (s : State) : s.dropWrite.rxBuf = s.rxBuf := by rw [State.dropWrite_eq]
@[simp] theorem State.dropWrite_rxLen (s : State) : s.dropWrite.rxLen = s.rxLen := by rw [State.dropWrite_eq]
@[simp] theorem State.dropWrite_lastErr (s : State) : s.dropWrite.lastErr = s.lastErr := by rw [State.dropWrite_eq]
@[simp] theorem State.dropWrite_ackFail (s : State) : s.dropWrite.ackFail = s.ackFail := by rw [State.dropWrite_eq]
@[simp] theorem State.dropWrite_snap (s : State) : s.dropWrite.snap = s.snap := by rw [State.dropWrite_eq]
@[simp] theorem State.dropWrite_probePolicy (s : State) : s.dropWrite.probePolicy = s.probePolicy := by rw [State.dropWrite_eq]
@[simp] theorem State.dropWrite_host (s : State) : s.dropWrite.host = s.host := by rw [State.dropWrite_eq]
@[simp] theorem State.dropWrite_reads (s : State) : s.dropWrite.reads = s.reads := by rw [State.dropWrite_eq]
@[simp] theorem State.dropWrite_writes (s : State) : s.dropWrite.writes = s.writes.tail := by rw [State.dropWrite_eq]
@[simp] theorem State.dropWrite_trace (s : State) : s.dropWrite.trace = s.trace := by rw [State.dropWrite_eq]

/-- Taking one answer changes `host` and `drawn`, and nothing else. -/
theorem State.dropAction_eq (s : State) : s.dropAction = { s with host := s.host.tail, drawn := s.dropAction.drawn } := by
  unfold State.dropAction
  cases h : s.host <;> simp

@[simp] theorem State.dropAction_cfgTm (s : State) : s.dropAction.cfgTm = s.cfgTm := by rw [State.dropAction_eq]
@[simp] theorem State.dropAction_cfgNorm (s : State) : s.dropAction.cfgNorm = s.cfgNorm := by rw [State.dropAction_eq]
@[simp] theorem State.dropAction_hsState (s : State) : s.dropAction.hsState = s.hsState := by rw [State.dropAction_eq]
@[simp] theorem State.dropAction_hsVerdict (s : State) : s.dropAction.hsVerdict = s.hsVerdict := by rw [State.dropAction_eq]
@[simp] theorem State.dropAction_commMode (s : State) : s.dropAction.commMode = s.commMode := by rw [State.dropAction_eq]
@[simp] theorem State.dropAction_res (s : State) : s.dropAction.res = s.res := by rw [State.dropAction_eq]
@[simp] theorem State.dropAction_res2 (s : State) : s.dropAction.res2 = s.res2 := by rw [State.dropAction_eq]
@[simp] theorem State.dropAction_rumbleCmd (s : State) : s.dropAction.rumbleCmd = s.rumbleCmd := by rw [State.dropAction_eq]
@[simp] theorem State.dropAction_txFrame (s : State) : s.dropAction.txFrame = s.txFrame := by rw [State.dropAction_eq]
@[simp] theorem State.dropAction_txLen (s : State) : s.dropAction.txLen = s.txLen := by rw [State.dropAction_eq]
@[simp] theorem State.dropAction_rxBuf (s : State) : s.dropAction.rxBuf = s.rxBuf := by rw [State.dropAction_eq]
@[simp] theorem State.dropAction_rxLen (s : State) : s.dropAction.rxLen = s.rxLen := by rw [State.dropAction_eq]
@[simp] theorem State.dropAction_lastErr (s : State) : s.dropAction.lastErr = s.lastErr := by rw [State.dropAction_eq]
@[simp] theorem State.dropAction_ackFail (s : State) : s.dropAction.ackFail = s.ackFail := by rw [State.dropAction_eq]
@[simp] theorem State.dropAction_snap (s : State) : s.dropAction.snap = s.snap := by rw [State.dropAction_eq]
@[simp] theorem State.dropAction_probePolicy (s : State) : s.dropAction.probePolicy = s.probePolicy := by rw [State.dropAction_eq]
@[simp] theorem State.dropAction_host (s : State) : s.dropAction.host = s.host.tail := by rw [State.dropAction_eq]
@[simp] theorem State.dropAction_reads (s : State) : s.dropAction.reads = s.reads := by rw [State.dropAction_eq]
@[simp] theorem State.dropAction_writes (s : State) : s.dropAction.writes = s.writes := by rw [State.dropAction_eq]
@[simp] theorem State.dropAction_trace (s : State) : s.dropAction.trace = s.trace := by rw [State.dropAction_eq]

@[simp] theorem State.rxRead_cfgTm (n : Nat) (s : State) : (s.rxRead n).cfgTm = s.cfgTm := by simp [State.rxRead]
@[simp] theorem State.rxRead_cfgNorm (n : Nat) (s : State) : (s.rxRead n).cfgNorm = s.cfgNorm := by simp [State.rxRead]
@[simp] theorem State.rxRead_hsState (n : Nat) (s : State) : (s.rxRead n).hsState = s.hsState := by simp [State.rxRead]
@[simp] theorem State.rxRead_hsVerdict (n : Nat) (s : State) : (s.rxRead n).hsVerdict = s.hsVerdict := by simp [State.rxRead]
@[simp] theorem State.rxRead_commMode (n : Nat) (s : State) : (s.rxRead n).commMode = s.commMode := by simp [State.rxRead]
@[simp] theorem State.rxRead_res (n : Nat) (s : State) : (s.rxRead n).res = s.res := by simp [State.rxRead]
@[simp] theorem State.rxRead_res2 (n : Nat) (s : State) : (s.rxRead n).res2 = s.res2 := by simp [State.rxRead]
@[simp] theorem State.rxRead_rumbleCmd (n : Nat) (s : State) : (s.rxRead n).rumbleCmd = s.rumbleCmd := by simp [State.rxRead]
@[simp] theorem State.rxRead_txFrame (n : Nat) (s : State) : (s.rxRead n).txFrame = s.txFrame := by simp [State.rxRead]
@[simp] theorem State.rxRead_txLen (n : Nat) (s : State) : (s.rxRead n).txLen = s.txLen := by simp [State.rxRead]
@[simp] theorem State.rxRead_rxBuf (n : Nat) (s : State) : (s.rxRead n).rxBuf = s.rxBuf := by simp [State.rxRead]
@[simp] theorem State.rxRead_rxLen (n : Nat) (s : State) : (s.rxRead n).rxLen = s.rxLen := by simp [State.rxRead]
@[simp] theorem State.rxRead_lastErr (n : Nat) (s : State) : (s.rxRead n).lastErr = s.lastErr := by simp [State.rxRead]
@[simp] theorem State.rxRead_ackFail (n : Nat) (s : State) : (s.rxRead n).ackFail = s.ackFail := by simp [State.rxRead]
@[simp] theorem State.rxRead_snap (n : Nat) (s : State) : (s.rxRead n).snap = s.snap := by simp [State.rxRead]
@[simp] theorem State.rxRead_probePolicy (n : Nat) (s : State) : (s.rxRead n).probePolicy = s.probePolicy := by simp [State.rxRead]
@[simp] theorem State.rxRead_host (n : Nat) (s : State) : (s.rxRead n).host = s.host := by simp [State.rxRead]
@[simp] theorem State.rxRead_reads (n : Nat) (s : State) : (s.rxRead n).reads = s.reads.tail := by simp [State.rxRead]
@[simp] theorem State.rxRead_writes (n : Nat) (s : State) : (s.rxRead n).writes = s.writes := by simp [State.rxRead]
@[simp] theorem State.rxRead_trace (n : Nat) (s : State) : (s.rxRead n).trace = s.trace ++ [.rxRead n (s.rxAnswer n)] := by simp [State.rxRead]

@[simp] theorem State.txWrite_cfgTm (l : List Byte) (s : State) : (s.txWrite l).cfgTm = s.cfgTm := by simp [State.txWrite]
@[simp] theorem State.txWrite_cfgNorm (l : List Byte) (s : State) : (s.txWrite l).cfgNorm = s.cfgNorm := by simp [State.txWrite]
@[simp] theorem State.txWrite_hsState (l : List Byte) (s : State) : (s.txWrite l).hsState = s.hsState := by simp [State.txWrite]
@[simp] theorem State.txWrite_hsVerdict (l : List Byte) (s : State) : (s.txWrite l).hsVerdict = s.hsVerdict := by simp [State.txWrite]
@[simp] theorem State.txWrite_commMode (l : List Byte) (s : State) : (s.txWrite l).commMode = s.commMode := by simp [State.txWrite]
@[simp] theorem State.txWrite_res (l : List Byte) (s : State) : (s.txWrite l).res = s.res := by simp [State.txWrite]
@[simp] theorem State.txWrite_res2 (l : List Byte) (s : State) : (s.txWrite l).res2 = s.res2 := by simp [State.txWrite]
@[simp] theorem State.txWrite_rumbleCmd (l : List Byte) (s : State) : (s.txWrite l).rumbleCmd = s.rumbleCmd := by simp [State.txWrite]
@[simp] theorem State.txWrite_txFrame (l : List Byte) (s : State) : (s.txWrite l).txFrame = s.txFrame := by simp [State.txWrite]
@[simp] theorem State.txWrite_txLen (l : List Byte) (s : State) : (s.txWrite l).txLen = s.txLen := by simp [State.txWrite]
@[simp] theorem State.txWrite_rxBuf (l : List Byte) (s : State) : (s.txWrite l).rxBuf = s.rxBuf := by simp [State.txWrite]
@[simp] theorem State.txWrite_rxLen (l : List Byte) (s : State) : (s.txWrite l).rxLen = s.rxLen := by simp [State.txWrite]
@[simp] theorem State.txWrite_lastErr (l : List Byte) (s : State) : (s.txWrite l).lastErr = s.lastErr := by simp [State.txWrite]
@[simp] theorem State.txWrite_ackFail (l : List Byte) (s : State) : (s.txWrite l).ackFail = s.ackFail := by simp [State.txWrite]
@[simp] theorem State.txWrite_snap (l : List Byte) (s : State) : (s.txWrite l).snap = s.snap := by simp [State.txWrite]
@[simp] theorem State.txWrite_probePolicy (l : List Byte) (s : State) : (s.txWrite l).probePolicy = s.probePolicy := by simp [State.txWrite]
@[simp] theorem State.txWrite_host (l : List Byte) (s : State) : (s.txWrite l).host = s.host := by simp [State.txWrite]
@[simp] theorem State.txWrite_reads (l : List Byte) (s : State) : (s.txWrite l).reads = s.reads := by simp [State.txWrite]
@[simp] theorem State.txWrite_writes (l : List Byte) (s : State) : (s.txWrite l).writes = s.writes.tail := by simp [State.txWrite]
@[simp] theorem State.txWrite_trace (l : List Byte) (s : State) : (s.txWrite l).trace = s.trace ++ [.txWrite l (s.txAnswer l)] := by simp [State.txWrite]

@[simp] theorem State.emitRumble_cfgTm (c : RumbleCmd) (s : State) : (s.emitRumble c).cfgTm = s.cfgTm := by cases c <;> rfl
@[simp] theorem State.emitRumble_cfgNorm (c : RumbleCmd) (s : State) : (s.emitRumble c).cfgNorm = s.cfgNorm := by cases c <;> rfl
@[simp] theorem State.emitRumble_hsState (c : RumbleCmd) (s : State) : (s.emitRumble c).hsState = s.hsState := by cases c <;> rfl
@[simp] theorem State.emitRumble_hsVerdict (c : RumbleCmd) (s : State) : (s.emitRumble c).hsVerdict = s.hsVerdict := by cases c <;> rfl
@[simp] theorem State.emitRumble_commMode (c : RumbleCmd) (s : State) : (s.emitRumble c).commMode = s.commMode := by cases c <;> rfl
@[simp] theorem State.emitRumble_res (c : RumbleCmd) (s : State) : (s.emitRumble c).res = s.res := by cases c <;> rfl
@[simp] theorem State.emitRumble_res2 (c : RumbleCmd) (s : State) : (s.emitRumble c).res2 = s.res2 := by cases c <;> rfl
@[simp] theorem State.emitRumble_rumbleCmd (c : RumbleCmd) (s : State) : (s.emitRumble c).rumbleCmd = s.rumbleCmd := by cases c <;> rfl
@[simp] theorem State.emitRumble_txFrame (c : RumbleCmd) (s : State) : (s.emitRumble c).txFrame = s.txFrame := by cases c <;> rfl
@[simp] theorem State.emitRumble_txLen (c : RumbleCmd) (s : State) : (s.emitRumble c).txLen = s.txLen := by cases c <;> rfl
@[simp] theorem State.emitRumble_rxBuf (c : RumbleCmd) (s : State) : (s.emitRumble c).rxBuf = s.rxBuf := by cases c <;> rfl
@[simp] theorem State.emitRumble_rxLen (c : RumbleCmd) (s : State) : (s.emitRumble c).rxLen = s.rxLen := by cases c <;> rfl
@[simp] theorem State.emitRumble_lastErr (c : RumbleCmd) (s : State) : (s.emitRumble c).lastErr = s.lastErr := by cases c <;> rfl
@[simp] theorem State.emitRumble_ackFail (c : RumbleCmd) (s : State) : (s.emitRumble c).ackFail = s.ackFail := by cases c <;> rfl
@[simp] theorem State.emitRumble_snap (c : RumbleCmd) (s : State) : (s.emitRumble c).snap = s.snap := by cases c <;> rfl
@[simp] theorem State.emitRumble_probePolicy (c : RumbleCmd) (s : State) : (s.emitRumble c).probePolicy = s.probePolicy := by cases c <;> rfl
@[simp] theorem State.emitRumble_host (c : RumbleCmd) (s : State) : (s.emitRumble c).host = s.host := by cases c <;> rfl
@[simp] theorem State.emitRumble_reads (c : RumbleCmd) (s : State) : (s.emitRumble c).reads = s.reads := by cases c <;> rfl
@[simp] theorem State.emitRumble_writes (c : RumbleCmd) (s : State) : (s.emitRumble c).writes = s.writes := by cases c <;> rfl
@[simp] theorem State.emitRumble_drawn (c : RumbleCmd) (s : State) : (s.emitRumble c).drawn = s.drawn := by cases c <;> rfl

/-- An answer to `RxRead(n)` holds at most `n` bytes (20_memory.md R40). -/
theorem clipRead_length (n : Nat) (r : RxResult) (l : List Byte) (h : clipRead n r = .bytes l) : l.length ≤ n := by
  cases r with
  | bytes m =>
    simp only [clipRead, RxResult.bytes.injEq] at h
    subst h
    exact List.length_take_le n m
  | timeout => simp [clipRead] at h
  | ioErr => simp [clipRead] at h

/-- The same for the bytes an answer delivers. -/
theorem receivedBytes_clipRead_length (n : Nat) (r : RxResult) : (receivedBytes (clipRead n r)).length ≤ n := by
  cases r with
  | bytes m => exact List.length_take_le n m
  | timeout => exact Nat.zero_le n
  | ioErr => exact Nat.zero_le n

/-- An answer that fits is given as it is. -/
theorem clipRead_of_length_le (n : Nat) (l : List Byte) (h : l.length ≤ n) : clipRead n (.bytes l) = .bytes l := by
  simp [clipRead, List.take_of_length_le h]

/-- A failed write delivers no more bytes than it was given (20_memory.md R39). -/
theorem clipWrite_sent_le (len k : Nat) (w : TxResult) (h : clipWrite len w = .ioErr k) : k ≤ len := by
  cases w with
  | ok => simp [clipWrite] at h
  | ioErr m =>
    simp only [clipWrite, TxResult.ioErr.injEq] at h
    omega

/-- `FLUSH_READ_MAX` is at least 1 (00_scope.md R8). -/
theorem flushReadMax_pos : 1 ≤ Config.flushReadMax := Nat.le_add_left 1 _

/-- A non-empty answer stays non-empty under the bound of a flush read. -/
theorem clipRead_flush_cons (b : Byte) (l : List Byte) :
    clipRead Config.flushReadMax (.bytes (b :: l)) = .bytes (b :: l.take Config.flushReadExtra) := rfl

/-- `MINIMAL_ERR_CHAR` is an ASCII code (00_scope.md R8). -/
theorem minimalErrChar_lt : Config.minimalErrChar.toNat < 0x80 := by
  have h := Config.minimalErrIndex.isLt
  unfold Config.minimalErrChar
  split <;> simp only [BitVec.toNat_ofNat] <;> omega

/-- `MINIMAL_ERR_CHAR` is not the magic byte (00_scope.md R8). -/
theorem minimalErrChar_ne_magic : Config.minimalErrChar ≠ Config.magic := by
  have h := Config.minimalErrIndex.isLt
  intro e
  have e' := congrArg BitVec.toNat e
  unfold Config.minimalErrChar Config.magic at e'
  split at e' <;> simp only [BitVec.toNat_ofNat] at e' <;> omega

/-- A command refused by no common check runs its own rule (60_exceptions.md R107). -/
theorem whenAccepted_of_accepts {s : State} (h : s.Accepts) (body : StepResult) : whenAccepted s body = body := by
  rcases h with h | h | h | h <;> simp [whenAccepted, h, HsState.busy]

/-- In `ABORTED` every listed command is refused (60_exceptions.md R107 item 1). -/
theorem whenAccepted_of_aborted {s : State} (h : s.hsState = .aborted) (body : StepResult) :
    whenAccepted s body = .next (s.setErr .aborted) := by
  simp [whenAccepted, h, refuse]

/-- While busy every listed command is refused (60_exceptions.md R107 item 3). -/
theorem whenAccepted_of_busy {s : State} (h : s.hsState.busy = true) (body : StepResult) :
    whenAccepted s body = .next (s.setErr .busy) := by
  have ha : s.hsState ≠ .aborted := by
    intro e
    simp [e, HsState.busy] at h
  simp [whenAccepted, ha, h, refuse]

/-- The three cases of the common checks. -/
theorem accepts_or_busy_or_aborted (s : State) :
    s.Accepts ∨ s.hsState.busy = true ∨ s.hsState = .aborted := by
  unfold State.Accepts
  cases s.hsState <;> simp [HsState.busy]

/-- All that a command under the common checks can answer. -/
theorem whenAccepted_cases {s t : State} {body : StepResult} (h : whenAccepted s body = .next t) :
    (s.hsState = .aborted ∧ t = s.setErr .aborted) ∨ (s.hsState.busy = true ∧ t = s.setErr .busy) ∨
      (s.Accepts ∧ body = .next t) := by
  rcases accepts_or_busy_or_aborted s with ha | hb | hc
  · rw [whenAccepted_of_accepts ha] at h
    exact .inr (.inr ⟨ha, h⟩)
  · rw [whenAccepted_of_busy hb] at h
    exact .inr (.inl ⟨hb, (Host.Outcome.next.inj h).symm⟩)
  · rw [whenAccepted_of_aborted hc] at h
    exact .inl ⟨hc, (Host.Outcome.next.inj h).symm⟩

/-- All that the `FLUSH_PRE` step can do (42_handshake_fsm.md R84). -/
theorem stepFlushPre_cases (s : State) :
    stepFlushPre s = s.rxRead Config.flushReadMax ∨
      stepFlushPre s = (s.rxRead Config.flushReadMax).fatal .fatalIo ∨
      stepFlushPre s = sendProbe (s.rxRead Config.flushReadMax) := by
  unfold stepFlushPre
  split <;> simp

/-- All that sending the probe can do (42_handshake_fsm.md R84). -/
theorem sendProbe_cases (s : State) :
    sendProbe s = ((loadProbe s).txWrite (frameBytes neutral20)).enter .probed ∨
      sendProbe s = ((loadProbe s).txWrite (frameBytes neutral20)).fatal .fatalIo ∨
      sendProbe s =
        (((loadProbe s).txWrite (frameBytes neutral20)).putVerdict .undetermined).enter
          .flushPost := by
  unfold sendProbe
  split
  · exact .inl rfl
  · split
    · exact .inr (.inl rfl)
    · exact .inr (.inr rfl)

/-- All that the `PROBED` step can do (42_handshake_fsm.md R85). -/
theorem stepProbed_cases (s : State) :
    stepProbed s = (s.rxRead Config.rxMax).fatal .fatalIo ∨
      ∃ l m, l.length ≤ 4 ∧ stepProbed s = takeProbeResponse l m (s.rxRead Config.rxMax) := by
  unfold stepProbed
  split
  · split
    · exact .inl rfl
    · exact .inr ⟨[], .undetermined, Nat.zero_le 4, rfl⟩
  · exact .inr ⟨[], .undetermined, Nat.zero_le 4, rfl⟩
  · rename_i l h
    exact .inr ⟨l, classify l, clipRead_length 4 _ l h, rfl⟩

/-- All that the `FLUSH_POST` step can do (42_handshake_fsm.md R87). -/
theorem stepFlushPost_cases (s : State) :
    stepFlushPost s = s.rxRead Config.flushReadMax ∨
      stepFlushPost s = (s.rxRead Config.flushReadMax).fatal .fatalIo ∨
      stepFlushPost s = settle (s.rxRead Config.flushReadMax) := by
  unfold stepFlushPost
  split <;> simp

/-- What the block does when left alone, by `hs_state` (42_handshake_fsm.md R91). -/
theorem autonomous_cases (s : State) :
    (s.hsState = .flushPre ∧ autonomous s = stepFlushPre s) ∨ (s.hsState = .probed ∧ autonomous s = stepProbed s) ∨
      (s.hsState = .flushPost ∧ autonomous s = stepFlushPost s) ∨
      (s.hsState.busy = false ∧ autonomous s = s) := by
  unfold autonomous
  cases h : s.hsState <;> simp [HsState.busy]

end Sys2Proof.Machine
end

