-- ==== Sys2Proof/Laws/Exec.lean ====
section
/-! SUPPORT. What a command, an FSM step, a step and a run can do, said once. -/

namespace Sys2Proof.Machine

/-- In `ABORTED` every instruction is refused (60_exceptions.md R107 item 1). -/
theorem exec_of_aborted {i : Instr} {s : State} (h : s.hsState = .aborted) : exec i s = .next (s.setErr .aborted) := by
  cases i <;> exact whenAccepted_of_aborted h _

/-- While busy every instruction is refused (60_exceptions.md R107 item 3). -/
theorem exec_of_busy {i : Instr} {s : State} (h : s.hsState.busy = true) : exec i s = .next (s.setErr .busy) := by
  cases i <;> exact whenAccepted_of_busy h _

/-- An instruction is refused by a common check, writing `last_err` alone, or its own rule runs (60_exceptions.md
R107). -/
theorem exec_err_or_accepts {i : Instr} {s t : State} (h : exec i s = .next t) : (∃ e, t = s.setErr e) ∨ s.Accepts := by
  rcases accepts_or_busy_or_aborted s with ha | hb | hc
  · exact .inr ha
  · rw [exec_of_busy hb] at h
    exact .inl ⟨_, (Host.Outcome.next.inj h).symm⟩
  · rw [exec_of_aborted hc] at h
    exact .inl ⟨_, (Host.Outcome.next.inj h).symm⟩

/-- A negotiated state is refused by no common check, and is not `START`. -/
theorem accepts_of_negotiated {s : State} (h : s.hsState.negotiated = true) : s.Accepts ∧ s.hsState ≠ .start := by
  unfold State.Accepts
  cases e : s.hsState <;> simp_all [HsState.negotiated]

/-- A command on the port runs the instruction it decodes to, or is a reserved `op`. -/
theorem issue_cases {c : Command} {s t : State} (h : issue c s = .next t) :
    (∃ i, decode c = .ok i ∧ exec i s = .next t) ∨ (∃ e, decode c = .error e ∧ reservedOp s = .next t) := by
  unfold issue at h
  split at h
  · exact .inl ⟨_, by assumption, h⟩
  · exact .inr ⟨_, by assumption, h⟩

/-- A reserved `op` writes `last_err` alone (30_encoding.md R52). -/
theorem reservedOp_cases {s t : State} (h : reservedOp s = .next t) : ∃ e, t = s.setErr e := by
  unfold reservedOp at h
  split at h <;> (cases h; exact ⟨_, rfl⟩)

/-- The operation code of a command that decodes. -/
theorem encode_op_of_decode {c : Command} {i : Instr} (h : decode c = .ok i) : (encode i).op = c.op := by
  unfold decode at h
  split at h <;> simp at h <;> subst h <;> (rename_i e; apply BitVec.eq_of_toNat_eq; rw [e]; rfl)

/-- All that `UPDATE` can do: a word in `last_err` alone, or the transaction of its dialect (43_update_haptic.md R96). -/
theorem execUpdate_cases {s t : State} (h : execUpdate s = .next t) :
    (∃ e, t = s.setErr e) ∨
      (s.Accepts ∧ s.hsState ≠ .start ∧
        ((s.commMode = .minimal ∧ t = updateMinimal s) ∨ (s.commMode = .extended ∧ t = updateExtended s))) := by
  rcases whenAccepted_cases h with ⟨-, rfl⟩ | ⟨-, rfl⟩ | ⟨ha, hb⟩
  · exact .inl ⟨_, rfl⟩
  · exact .inl ⟨_, rfl⟩
  · split at hb
    · cases hb
      exact .inl ⟨_, rfl⟩
    · rename_i hs
      split at hb <;> cases hb
      · exact .inl ⟨_, rfl⟩
      · exact .inr ⟨ha, hs, .inl ⟨by assumption, rfl⟩⟩
      · exact .inr ⟨ha, hs, .inr ⟨by assumption, rfl⟩⟩

/-- The errors an update reports (43_update_haptic.md R98). -/
theorem updateErr_cases (w : TxResult) (r : RxResult) :
    updateErr w r = .none ∨ updateErr w r = .txIo ∨ updateErr w r = .rxIo := by
  cases w <;> cases r <;> simp [updateErr]

/-- An update receives at most four bytes (00_scope.md R8). -/
theorem updateBytes_length (n : FrameLen) (s : State) : (updateBytes n s).length ≤ 4 :=
  receivedBytes_clipRead_length 4 _

/-- Emitting a rumble command records its calls and does nothing else (43_update_haptic.md R95). -/
theorem emitRumble_eq (c : RumbleCmd) (s : State) :
    s.emitRumble c = { s with trace := s.trace ++ rumbleCalls c } := by
  cases c <;> simp [State.emitRumble, rumbleCalls, State.record]

/-- No instruction but `HANDSHAKE` in `START` changes `hs_state` (10_state.md R21). -/
theorem exec_hsState {i : Instr} {s t : State} (h : exec i s = .next t) :
    t.hsState = s.hsState ∨ (i = .handshake ∧ s.hsState = .start ∧ t.hsState = .flushPre) := by
  rcases exec_err_or_accepts h with ⟨e, rfl⟩ | ha
  · exact .inl rfl
  cases i <;> have hb := (whenAccepted_of_accepts ha _).symm.trans h
  case handshake =>
    split at hb <;> cases hb
    · exact .inl rfl
    · refine .inr ⟨rfl, ?_, rfl⟩
      rcases ha with h | h | h | h <;> simp_all [HsState.negotiated]
  case update =>
    rcases execUpdate_cases h with ⟨e, rfl⟩ | ⟨-, -, ⟨-, rfl⟩ | ⟨-, rfl⟩⟩
    · exact .inl rfl
    · simp [updateMinimal, exchange, afterWrite, buildFor]
    · simp [updateExtended, exchange, afterWrite, buildFor]
  case config =>
    split at hb
    · cases hb
      exact .inl rfl
    · split at hb <;> (cases hb; exact .inl rfl)
  all_goals first
    | (cases hb; exact .inl rfl)
    | (split at hb <;> (cases hb; exact .inl rfl))

/-- What no instruction writes, and the one that writes the configuration (10_state.md R19, R20, R22, R23). -/
theorem exec_frame {i : Instr} {s t : State} (h : exec i s = .next t) :
    t.commMode = s.commMode ∧ t.hsVerdict = s.hsVerdict ∧ t.probePolicy = s.probePolicy ∧ t.host = s.host ∧
      t.snap = s.snap ∧
      (t.cfgTm = s.cfgTm ∧ t.cfgNorm = s.cfgNorm ∨ s.hsState = .start ∧ ∃ m n, i = .config m n) := by
  rcases exec_err_or_accepts h with ⟨e, rfl⟩ | ha
  · exact ⟨rfl, rfl, rfl, rfl, rfl, .inl ⟨rfl, rfl⟩⟩
  cases i <;> have hb := (whenAccepted_of_accepts ha _).symm.trans h
  case config =>
    split at hb
    · cases hb
      exact ⟨rfl, rfl, rfl, rfl, rfl, .inl ⟨rfl, rfl⟩⟩
    · rename_i hs
      simp only [ne_eq, not_not] at hs
      split at hb <;> (cases hb; exact ⟨rfl, rfl, rfl, rfl, rfl, .inr ⟨hs, _, _, rfl⟩⟩)
  case update =>
    rcases execUpdate_cases h with ⟨e, rfl⟩ | ⟨-, -, ⟨-, rfl⟩ | ⟨-, rfl⟩⟩
    · exact ⟨rfl, rfl, rfl, rfl, rfl, .inl ⟨rfl, rfl⟩⟩
    · simp [updateMinimal, exchange, afterWrite, buildFor]
    · simp [updateExtended, exchange, afterWrite, buildFor]
  all_goals first
    | (cases hb; exact ⟨rfl, rfl, rfl, rfl, rfl, .inl ⟨rfl, rfl⟩⟩)
    | (split at hb <;> (cases hb; exact ⟨rfl, rfl, rfl, rfl, rfl, .inl ⟨rfl, rfl⟩⟩))

/-- No instruction but `UPDATE` touches the transport, the response register or `ack_fail` (10_state.md R29, R31). -/
theorem exec_quiet {i : Instr} {s t : State} (h : exec i s = .next t) (hi : i ≠ .update) :
    t.trace = s.trace ∧ t.reads = s.reads ∧ t.writes = s.writes ∧ t.rxBuf = s.rxBuf ∧ t.rxLen = s.rxLen ∧
      t.ackFail = s.ackFail := by
  rcases exec_err_or_accepts h with ⟨e, rfl⟩ | ha
  · exact ⟨rfl, rfl, rfl, rfl, rfl, rfl⟩
  cases i <;> have hb := (whenAccepted_of_accepts ha _).symm.trans h
  case config =>
    split at hb
    · cases hb
      exact ⟨rfl, rfl, rfl, rfl, rfl, rfl⟩
    · split at hb <;> (cases hb; exact ⟨rfl, rfl, rfl, rfl, rfl, rfl⟩)
  case update => exact absurd rfl hi
  all_goals first
    | (cases hb; exact ⟨rfl, rfl, rfl, rfl, rfl, rfl⟩)
    | (split at hb <;> (cases hb; exact ⟨rfl, rfl, rfl, rfl, rfl, rfl⟩))

/-- What no FSM step writes, and the one that writes `comm_mode` (42_handshake_fsm.md R84 to R87, R91). -/
theorem autonomous_frame (s : State) :
    (autonomous s).cfgTm = s.cfgTm ∧ (autonomous s).cfgNorm = s.cfgNorm ∧ (autonomous s).host = s.host ∧
      (autonomous s).probePolicy = s.probePolicy ∧ (autonomous s).snap = s.snap ∧
      ((autonomous s).commMode = s.commMode ∨
        (s.hsState = .flushPost ∧ (autonomous s).commMode = s.hsVerdict ∧
          (autonomous s).hsState.negotiated = true)) := by
  rcases autonomous_cases s with ⟨h, e⟩ | ⟨h, e⟩ | ⟨h, e⟩ | ⟨h, e⟩ <;> rw [e]
  · rcases stepFlushPre_cases s with h' | h' | h' <;> rw [h']
    · simp
    · simp [State.fatal]
    · rcases sendProbe_cases (s.rxRead Config.flushReadMax) with h'' | h'' | h'' <;> rw [h''] <;>
        simp [loadProbe, State.fatal]
  · rcases stepProbed_cases s with h' | ⟨l, m, -, h'⟩ <;> rw [h'] <;> simp [takeProbeResponse, State.fatal]
  · rcases stepFlushPost_cases s with h' | h' | h' <;> rw [h']
    · simp
    · simp [State.fatal]
    · unfold settle terminalOf
      cases hv : s.hsVerdict <;> simp [h, HsState.negotiated, hv]
  · simp

/-- A step on which the block is left alone. -/
theorem step_of_idle {s : State} (h : s.nextAction = .idle) : step s = .next (autonomous s.dropAction) := by
  simp [step, perform, h]

/-- A step on which a command is issued. -/
theorem step_of_command {s : State} {c : Command} (h : s.nextAction = .command c) : step s = issue c s.dropAction := by
  simp [step, perform, h]

/-- A run of one step and more, after that step. -/
theorem run_succ_of_step {s u : State} (k : Nat) (h : step s = .next u) :
    Sys2Proof.core.run (k + 1) s = Sys2Proof.core.run k u := by
  have unfolds : ∀ (M : Host.Core) (s u : M.State), M.step s = .next u → M.run (k + 1) s = M.run k u := by
    intro M s u e
    have one : M.run (k + 1) s =
        match M.step s with
        | .next s' => M.run k s'
        | .fault r => .fault r
        | .refused r => .refused r := rfl
    rw [one, e]
  exact unfolds Sys2Proof.core s u h

end Sys2Proof.Machine
end

