-- ==== Sys2Proof/Laws/PerInstr.lean ====
section
/-! SUPPORT. Statements about every instruction, one lemma for each constructor of `Instr`. -/

namespace Sys2Proof.Laws.RoundTrip

/-- The decoder reads from an instruction's encoding that instruction, with every operand (30_encoding.md R50, R51). -/
def Statement (i : Instr) : Prop := decode (encode i) = .ok i

theorem config (m : BitVec 2) (n : Bool) : Statement (.config m n) := by
  unfold Statement
  revert m n
  decide

theorem bta8 (p : Bool) : Statement (.bta8 p) := by
  cases p <;> rfl

theorem bta16 (p : Bool) : Statement (.bta16 p) := by
  cases p <;> rfl

theorem atb8 (v : Byte) : Statement (.atb8 v) := by
  simp [Statement, decode, encode, Command.ofOp]

theorem atb16 (v : Word) : Statement (.atb16 v) := rfl

theorem scale (x : Word) : Statement (.scale x) := rfl

theorem hapos (x : Word) : Statement (.hapos x) := rfl

theorem haneg (x : Word) : Statement (.haneg x) := rfl

theorem norm (x y : Word) : Statement (.norm x y) := rfl

theorem col8 (vlen : BitVec 4) (v : Lanes Byte) : Statement (.col8 vlen v) := by
  simp [Statement, decode, encode, Command.ofOp]

theorem col16 (vlen : BitVec 4) (v : Lanes Word) : Statement (.col16 vlen v) := rfl

theorem build20 : Statement .build20 := rfl

theorem build7 : Statement .build7 := rfl

theorem probe : Statement .probe := rfl

theorem handshake : Statement .handshake := rfl

theorem update : Statement .update := rfl

theorem haptic (vlen : BitVec 4) (r0 r1 r2 r3 : Byte) : Statement (.haptic vlen r0 r1 r2 r3) := by
  simp [Statement, decode, encode, Command.ofOp]

theorem ackdec (vlen : BitVec 4) (r0 : Byte) : Statement (.ackdec vlen r0) := by
  simp [Statement, decode, encode, Command.ofOp]

end Sys2Proof.Laws.RoundTrip
end

