-- ==== Sys2Proof/Machine/Asm.lean ====
section
/-! DEFINITION. The assembler syntax (30_encoding.md R53): the lines it has, the port value each stands for, and its
text. `snap` is given beside a program, not in a line, and there are no pseudo-instructions (R53). -/

namespace Sys2Proof.Machine

/-- One line of the syntax of R53, its operands already read as numbers. -/
inductive AsmLine where
  | config (tm : TriggerMode) (norm : Bool)
  | bta8 (p : Bool)
  | bta16 (p : Bool)
  | atb8 (v : Byte)
  | atb16 (v : Word)
  | scale (x : Word)
  | hapos (x : Word)
  | haneg (x : Word)
  | norm (x y : Word)
  | col8 (l : List Byte)
  | col16 (l : List Word)
  | build20
  | build7
  | probe
  | handshake
  | update
  | haptic (l : List Byte)
  | ackdec (l : List Byte)
  deriving DecidableEq, Repr

/-- The port's lanes filled from a list, 0 beyond it. -/
def lanesOf (l : List Word) : Lanes Word :=
  ⟨l.getD 0 0#16, l.getD 1 0#16, l.getD 2 0#16, l.getD 3 0#16, l.getD 4 0#16, l.getD 5 0#16, l.getD 6 0#16,
   l.getD 7 0#16⟩

/-- A command with a list operand: the list length goes to `vlen` (R53), which holds 0..15 (R49). -/
def listCommand (op : Byte) (l : List Word) : Option Command :=
  if l.length ≤ 15 then some { Command.ofOp op with v := lanesOf l, vlen := BitVec.ofNat 4 l.length } else none

/-- The port value of a line (R49 to R51, R53), every field the line does not give at 0; none for a list that `vlen`
cannot count. -/
def assemble : AsmLine → Option Command
  | .config tm n => some { Command.ofOp 0x01#8 with a := (BitVec.ofBool n ++ tm.code).setWidth 16 }
  | .bta8 p => some { Command.ofOp 0x10#8 with a := flagWord p }
  | .bta16 p => some { Command.ofOp 0x11#8 with a := flagWord p }
  | .atb8 v => some { Command.ofOp 0x12#8 with a := zextByte v }
  | .atb16 v => some { Command.ofOp 0x13#8 with a := v }
  | .scale x => some { Command.ofOp 0x14#8 with a := x }
  | .hapos x => some { Command.ofOp 0x15#8 with a := x }
  | .haneg x => some { Command.ofOp 0x16#8 with a := x }
  | .norm x y => some { Command.ofOp 0x17#8 with a := x, b := y }
  | .col8 l => listCommand 0x18#8 (l.map zextByte)
  | .col16 l => listCommand 0x19#8 l
  | .build20 => some (Command.ofOp 0x21#8)
  | .build7 => some (Command.ofOp 0x22#8)
  | .probe => some (Command.ofOp 0x23#8)
  | .handshake => some (Command.ofOp 0x30#8)
  | .update => some (Command.ofOp 0x40#8)
  | .haptic l => listCommand 0x41#8 (l.map zextByte)
  | .ackdec l => listCommand 0x42#8 (l.map zextByte)

/-- The name of a trigger mode in a `CONFIG` line (R53). -/
def triggerModeText : TriggerMode → String
  | .normal => "Normal"
  | .rightStickAsTrigger => "RightStickAsTrigger"
  | .crossSquareAsTrigger => "CrossSquareAsTrigger"

/-- A flag operand (R53). -/
def flagText (b : Bool) : String := if b then "1" else "0"

/-- A list operand (R53). -/
def listText (l : List String) : String := "[" ++ String.intercalate ", " l ++ "]"

/-- The line as text, numbers in decimal (R53). -/
def asmText : AsmLine → String
  | .config tm n => "CONFIG tm=" ++ triggerModeText tm ++ ", norm=" ++ flagText n
  | .bta8 p => "BTA8 " ++ flagText p
  | .bta16 p => "BTA16 " ++ flagText p
  | .atb8 v => "ATB8 " ++ toString v.toNat
  | .atb16 v => "ATB16 " ++ toString v.toInt
  | .scale x => "SCALE " ++ toString x.toInt
  | .hapos x => "HAPOS " ++ toString x.toInt
  | .haneg x => "HANEG " ++ toString x.toInt
  | .norm x y => "NORM " ++ toString x.toInt ++ ", " ++ toString y.toInt
  | .col8 l => "COL8 " ++ listText (l.map fun v => toString v.toNat)
  | .col16 l => "COL16 " ++ listText (l.map fun v => toString v.toInt)
  | .build20 => "BUILD20"
  | .build7 => "BUILD7"
  | .probe => "PROBE"
  | .handshake => "HANDSHAKE"
  | .update => "UPDATE"
  | .haptic l => "HAPTIC " ++ listText (l.map fun v => toString v.toNat)
  | .ackdec l => "ACKDEC " ++ listText (l.map fun v => toString v.toNat)

end Sys2Proof.Machine
end

