-- ==== Sys2Proof/Tests/Slice0.lean ====
section
/-! SUPPORT. The author's own checks: operand checks, port words written out from 30_encoding.md R49 to R51, single steps
with the expected values of 95_test_vectors.md, and for each statement with hypotheses a state and operands that meet
them. -/

namespace Sys2Proof.Tests

open Sys2Proof Sys2Proof.Machine

/-- One field of the next state. -/
def after {α : Type} (f : State → α) : StepResult → Option α
  | .next t => some (f t)
  | .fault _ => none
  | .refused _ => none

/-- The reset state in another handshake state. -/
def inState (h : HsState) : State := { State.reset with hsState := h }

/-- A session negotiated as Extended. -/
def extended : State :=
  { State.reset with
    hsState := .extended, hsVerdict := .extended, commMode := .extended, txFrame := neutral20, txLen := .extended }

/-- A session negotiated as Minimal. -/
def minimal : State :=
  { State.reset with
    hsState := .minimal, hsVerdict := .minimal, commMode := .minimal, txFrame := neutral20, txLen := .extended }

/-- A session in log-only mode. -/
def logOnly : State := { inState .unknown with txFrame := neutral20, txLen := .extended }

/-- A state whose host leaves the block alone next, with the device's next answers. -/
def left (h : HsState) (r : RxResult) (w : TxResult) : State :=
  { inState h with host := [.idle], reads := [r], writes := [w] }

/-- A state whose host issues a command next. -/
def issued (s : State) (i : Instr) : State := { s with host := [.command (encode i)] }

/-- The snapshot `ex2` of 95_test_vectors.md L1.7. -/
def ex2 : Snapshot :=
  { Snapshot.neutral with
    dpadLeft := true, a := true, leftTrigger := 0x7FFF#16, rightX := 0xA240#16, rightY := 0x4074#16
    leftX := 0x00FF#16, leftY := 0xF000#16 }

/-- The snapshot `p2` of 95_test_vectors.md L2.6. -/
def p2 : Snapshot :=
  { Snapshot.neutral with b := true, rightY := 0xB1E0#16, leftTrigger := 0x2710#16, rightTrigger := 0x07D0#16 }

/-! ## Operand checks (30_encoding.md R52) -/

theorem test_wellFormed_refuses_trigger_code_3 : (Instr.config 3#2 false).wellFormed = false := by decide

theorem test_wellFormed_refuses_col8_of_seven : (Instr.col8 7#4 ⟨0, 0, 0, 0, 0, 0, 0, 0⟩).wellFormed = false := by
  decide

theorem test_wellFormed_refuses_col16_of_nine : (Instr.col16 9#4 ⟨0, 0, 0, 0, 0, 0, 0, 0⟩).wellFormed = false := by
  decide

theorem test_wellFormed_refuses_haptic_of_five : (Instr.haptic 5#4 0 0 0 0).wellFormed = false := by decide

theorem test_wellFormed_refuses_ackdec_of_five : (Instr.ackdec 5#4 0).wellFormed = false := by decide

/-! ## Port words (30_encoding.md R49 to R51; layout log 8) -/

theorem test_decode_config : decodeTableWord 24 0x000501 = some (.config 1#2 true) := by decide
theorem test_decode_bta8 : decodeTableWord 24 0xFFFE10 = some (.bta8 false) := by decide
theorem test_decode_bta16 : decodeTableWord 24 0x000111 = some (.bta16 true) := by decide
theorem test_decode_atb8 : decodeTableWord 24 0xFF7F12 = some (.atb8 0x7F#8) := by decide
theorem test_decode_atb16 : decodeTableWord 24 0x7FFF13 = some (.atb16 0x7FFF#16) := by decide
theorem test_decode_scale : decodeTableWord 24 0x98E014 = some (.scale 0x98E0#16) := by decide
theorem test_decode_hapos : decodeTableWord 24 0x400115 = some (.hapos 0x4001#16) := by decide
theorem test_decode_haneg : decodeTableWord 24 0xBFFE16 = some (.haneg 0xBFFE#16) := by decide
theorem test_decode_norm : decodeTableWord 40 0x4074A24017 = some (.norm 0xA240#16 0x4074#16) := by decide

theorem test_decode_col8 :
    decodeTableWord 172 0x8FF0800070006000500040003000201810000000018 =
      some (.col8 8#4 ⟨0x81#8, 0x02#8, 0x03#8, 0x04#8, 0x05#8, 0x06#8, 0x07#8, 0x08#8⟩) := by decide

theorem test_decode_col16 :
    decodeTableWord 172 0x8FFFF0005000400030002000180007FFF0000000019 =
      some (.col16 8#4
        ⟨0x7FFF#16, 0x8000#16, 0x0001#16, 0x0002#16, 0x0003#16, 0x0004#16, 0x0005#16, 0xFFFF#16⟩) := by decide

theorem test_decode_build20 : decodeTableWord 8 0x21 = some .build20 := by decide
theorem test_decode_build7 : decodeTableWord 8 0x22 = some .build7 := by decide
theorem test_decode_probe : decodeTableWord 8 0x23 = some .probe := by decide
theorem test_decode_handshake : decodeTableWord 8 0x30 = some .handshake := by decide
theorem test_decode_update : decodeTableWord 8 0x40 = some .update := by decide


theorem test_decode_haptic :
    decodeTableWord 172 0x40000000000000000000000800001005A0000000041 =
      some (.haptic 4#4 0x5A#8 0x01#8 0x80#8 0x00#8) := by decide

theorem test_decode_ackdec :
    decodeTableWord 172 0x1000000000000000000000000000012850000000042 = some (.ackdec 1#4 0x85#8) := by decide

theorem test_decode_refuses_reserved_ops :
    ([0x00, 0x02, 0x0F, 0x1A, 0x20, 0x24, 0x2F, 0x31, 0x3F, 0x43, 0x50, 0xFF].map (decodeTableWord 8)) =
      List.replicate 12 none := by decide

theorem test_placed_word_runs_next :
    after (fun t => (t.res, t.host)) (step (State.reset.withFetchWord 24 0x98E014)) = some (0x0018#16, []) := by decide

/-! ## Single steps: the value codec (95_test_vectors.md L2.1 to L2.5) -/

theorem test_bta8 : after (·.res) (exec (.bta8 true) State.reset) = some 0x00FF#16 := by decide
theorem test_bta16 : after (·.res) (exec (.bta16 false) State.reset) = some 0x8000#16 := by decide
theorem test_atb8_not_pressed : after (·.res) (exec (.atb8 127#8) State.reset) = some 0#16 := by decide
theorem test_atb8_pressed : after (·.res) (exec (.atb8 128#8) State.reset) = some 1#16 := by decide
theorem test_atb16_zero : after (·.res) (exec (.atb16 0#16) State.reset) = some 0#16 := by decide
theorem test_atb16_one : after (·.res) (exec (.atb16 1#16) State.reset) = some 1#16 := by decide
theorem test_scale_negative : after (·.res) (exec (.scale 0xFEFF#16) State.reset) = some 0x007E#16 := by decide
theorem test_scale_minus_one : after (·.res) (exec (.scale 0xFFFF#16) State.reset) = some 0x007F#16 := by decide
theorem test_hapos : after (·.res) (exec (.hapos 0x7FFE#16) State.reset) = some 0x7FFC#16 := by decide
theorem test_hapos_fixed_point : after (·.res) (exec (.hapos 0x7FFF#16) State.reset) = some 0x7FFF#16 := by decide
theorem test_haneg : after (·.res) (exec (.haneg 0xBFFE#16) State.reset) = some 0x0002#16 := by decide
theorem test_haneg_max : after (·.res) (exec (.haneg 0x7FFF#16) State.reset) = some 0x8000#16 := by decide

theorem test_norm_truncates :
    after (fun t => (t.res, t.res2)) (exec (.norm 0x0013#16 0xFFED#16) { State.reset with cfgNorm := true }) =
      some (0x0014#16, 0xFFEC#16) := by decide

theorem test_norm_saturates :
    after (fun t => (t.res, t.res2)) (exec (.norm 0x745E#16 0x8BA3#16) { State.reset with cfgNorm := true }) =
      some (0x7FFF#16, 0x8001#16) := by decide

theorem test_col8 :
    after (·.res) (exec (.col8 8#4 ⟨128, 127, 128, 127, 0, 255, 1, 200⟩) State.reset) = some 0x00A5#16 := by decide

theorem test_col16 :
    after (·.res) (exec (.col16 8#4 ⟨0, 1, 0xFFFF, 2, 0x7FFF, 0x8000, 0, 100⟩) State.reset) = some 0x0059#16 := by
  decide

theorem test_col16_refuses_seven :
    after (fun t => (t.lastErr.code, t.res)) (exec (.col16 7#4 ⟨1, 1, 1, 1, 1, 1, 1, 1⟩) State.reset) =
      some (1#4, 0#16) := by decide

/-! ## Single steps: the packet builder (95_test_vectors.md L1.7, L2.6, L2.7) -/

theorem test_build20_ex2 :
    after (fun t => (frameBytes t.txFrame, t.txLen.toNat))
      (exec .build20 { State.reset with cfgNorm := true, snap := ex2 }) =
      some ([0x5A, 0x7F, 0xBE, 0x18, 0xC6, 0x81, 0x6E, 0x00, 0xFF, 0x00, 0x00, 0x00, 0x00, 0xFF, 0x00, 0x00, 0x00,
        0xFF, 0x00, 0x55], 20) := by decide

theorem test_build20_p2_right_stick_as_trigger :
    after (fun t => frameBytes t.txFrame)
      (exec .build20 { State.reset with cfgTm := .rightStickAsTrigger, cfgNorm := true, snap := p2 }) =
      some [0x5A, 0xFF, 0xDE, 0x80, 0xA2, 0x80, 0x80, 0x00, 0x00, 0x00, 0x00, 0x00, 0xFF, 0x00, 0x00, 0x00, 0x00,
        0x9C, 0x00, 0x55] := by decide

theorem test_build20_cross_square_as_trigger :
    after (fun t => frameBytes t.txFrame)
      (exec .build20 { State.reset with
        cfgTm := .crossSquareAsTrigger
        snap := { Snapshot.neutral with a := true, leftTrigger := 0x4E20#16, rightTrigger := 0x7FFF#16 } }) =
      some [0x5A, 0xFF, 0x3E, 0x80, 0x80, 0x80, 0x80, 0x00, 0x00, 0x00, 0x00, 0x00, 0x00, 0xFF, 0x9C, 0x00, 0x00,
        0xFF, 0x00, 0x55] := by decide

theorem test_build7_p2 :
    after (fun t => packet t.txFrame t.txLen)
      (exec .build7 { State.reset with cfgTm := .rightStickAsTrigger, snap := p2 }) =
      some [0x5A, 0xFF, 0xDE, 0x80, 0x9F, 0x80, 0x80] := by decide

theorem test_probe :
    after (fun t => packet t.txFrame t.txLen) (exec .probe { State.reset with snap := ex2 }) =
      some [0x5A, 0xFF, 0xFF, 0x80, 0x80, 0x80, 0x80, 0x00, 0x00, 0x00, 0x00, 0x00, 0x00, 0x00, 0x00, 0x00, 0x00,
        0x00, 0x00, 0x55] := by decide

/-! ## Single steps: the session (95_test_vectors.md L2.8, L2.9, L2.11) -/

theorem test_config :
    after (fun t => (t.cfgTm.code, t.cfgNorm)) (issue { Command.ofOp 0x01#8 with a := 0x0005#16 } State.reset) =
      some (1#2, true) := by decide

theorem test_config_locked_before_code_3 :
    after (·.lastErr.code) (exec (.config 3#2 false) minimal) = some 4#4 := by decide

theorem test_handshake : after (·.hsState.code) (exec .handshake State.reset) = some 1#3 := by decide

theorem test_handshake_twice : after (·.lastErr.code) (exec .handshake extended) = some 6#4 := by decide

theorem test_reserved_op_before_busy :
    after (·.lastErr.code) (issue (Command.ofOp 0x50#8) (inState .flushPre)) = some 2#4 := by decide

theorem test_reserved_op_after_abort :
    after (·.lastErr.code) (issue (Command.ofOp 0x50#8) (inState .aborted)) = some 12#4 := by decide

theorem test_flush_pre_sends_probe :
    after (fun t => (t.hsState.code, packet t.txFrame t.txLen)) (step (left .flushPre .timeout .ok)) =
      some (2#3, frameBytes neutral20) := by decide

theorem test_flush_pre_discards :
    after (fun t => (t.hsState.code, t.txLen.toNat)) (step (left .flushPre (.bytes [0x13#8, 0x37#8]) .ok)) =
      some (1#3, 0) := by decide

theorem test_probe_write_error_aborts :
    after (fun t => (t.hsState.code, t.lastErr.code, t.txLen.toNat)) (step (left .flushPre .timeout (.ioErr 3))) =
      some (7#3, 8#4, 20) := by decide

theorem test_probe_write_error_under_unknown :
    after (·.hsState.code)
      (step { left .flushPre .timeout (.ioErr 3) with probePolicy := .unknown }) = some 3#3 := by decide

theorem test_probed_extended :
    after (fun t => (t.hsState.code, t.hsVerdict.code, t.rxLen.val, t.rxBuf))
      (step (left .probed (.bytes [0x5A#8, 0x12#8]) .ok)) =
      some (3#3, 2#2, 2, ⟨0x5A#8, 0x12#8, 0x00#8, 0x00#8⟩) := by decide

theorem test_flush_post_extended :
    after (fun t => (t.hsState.code, t.commMode.code, t.lastErr.code))
      (step { left .flushPost (.bytes []) .ok with hsVerdict := .extended }) = some (5#3, 2#2, 0#4) := by decide

theorem test_flush_post_unknown :
    after (fun t => (t.hsState.code, t.commMode.code, t.lastErr.code)) (step (left .flushPost .timeout .ok)) =
      some (6#3, 0#2, 11#4) := by decide

theorem test_classify_error_char : classify [Config.minimalErrChar, 0x5A#8] = .minimal := by
  simp [classify, minimalErrChar_ne_magic]

/-! ## Single steps: updates and decoders (95_test_vectors.md L2.10) -/

theorem test_haptic :
    after (·.rumbleCmd) (exec (.haptic 4#4 0x5A 0x40 0xC0 0x00) State.reset) =
      some (.set 49344#16 16448#16 500#16) := by decide

theorem test_haptic_of_two : after (·.rumbleCmd) (exec (.haptic 2#4 0x5A 0x80 0 0) State.reset) = some .none := by
  decide

theorem test_ackdec_error_char :
    after (·.res) (exec (.ackdec 1#4 Config.minimalErrChar) State.reset) = some 1#16 := by
  simp [exec, execAckdec, whenAccepted_of_accepts (s := State.reset) (.inl rfl), complete, after, ackFailed, flagWord]

theorem test_ackdec_empty : after (·.res) (exec (.ackdec 0#4 0x5A) State.reset) = some 0#16 := by decide

theorem test_update_extended :
    after (fun t => (t.rumbleCmd, t.rxLen.val, t.lastErr.code, t.trace.getLast?))
      (exec .update { extended with writes := [.ioErr 9], reads := [.bytes [0x5A#8, 0x01#8, 0x01#8, 0x00#8]] }) =
      some (.set 257#16 257#16 500#16, 4, 9#4, some (.setRumble 257#16 257#16 500#16)) := by decide

theorem test_update_minimal :
    after (fun t => (t.txLen.toNat, t.ackFail, t.lastErr.code, t.trace))
      (exec .update { minimal with cfgTm := .rightStickAsTrigger, snap := p2, writes := [.ok], reads := [.ioErr] }) =
      some (7, false, 10#4, [.txWrite [0x5A, 0xFF, 0xDE, 0x80, 0x9F, 0x80, 0x80] .ok, .rxRead 4 .ioErr]) := by decide

/-! ## The assembler syntax (95_test_vectors.md P1, P2) -/

theorem test_assemble_config :
    assemble (.config .rightStickAsTrigger false) = some { Command.ofOp 0x01#8 with a := 0x0001#16 } := by decide

theorem test_assemble_list_length :
    (assemble (.haptic [0x5A, 0x80])).map (fun c => (c.vlen, c.v.l0, c.v.l1, c.v.l2)) =
      some (2#4, 0x005A#16, 0x0080#16, 0x0000#16) := by decide

theorem test_assemble_refuses_sixteen : assemble (.col8 (List.replicate 16 0)) = none := by decide

theorem test_asm_text :
    asmText (.norm 0xA240#16 0x4074#16) = "NORM -24000, 16500" ∧
      asmText (.config .rightStickAsTrigger true) = "CONFIG tm=RightStickAsTrigger, norm=1" := by decide

/-! ## Witnesses: a state and operands that meet the hypotheses of each statement that has any -/

theorem witness_CommandsTakeTheOperandsOfTheirRow :
    [0x01#8, 0x10#8, 0x11#8, 0x12#8, 0x13#8, 0x14#8, 0x15#8, 0x16#8, 0x17#8, 0x18#8, 0x19#8, 0x21#8, 0x22#8, 0x23#8,
      0x30#8, 0x40#8, 0x41#8, 0x42#8].all (fun op => decide ((Command.ofOp op).op = op)) = true := by decide

theorem witness_ReservedAndIllegalEncodingsAreRefused :
    [0x00#8, 0x02#8, 0x0F#8, 0x1A#8, 0x20#8, 0x24#8, 0x2F#8, 0x31#8, 0x3F#8, 0x43#8, 0xFF#8].all
      (fun op => match decode (Command.ofOp op) with
        | .error (.reservedOp o) => decide (o = op)
        | .ok _ => false) = true ∧
    (inState .flushPre).hsState ≠ .aborted ∧ State.reset.hsState = .start ∧ (3#2 = 3#2 ∧ 2#2 ≠ 3#2) ∧
    State.reset.Accepts ∧ (7#4 ≠ 8#4 ∧ 9#4 ≠ 8#4 ∧ 8#4 = 8#4) ∧ ((5#4).toNat > 4 ∧ (4#4).toNat ≤ 4) ∧
    ((Instr.config 2#2 true).wellFormed = true ∧
      exec (.config 2#2 true) State.reset =
        .next { State.reset with cfgTm := .crossSquareAsTrigger, cfgNorm := true }) :=
  ⟨by decide, by decide, rfl, by decide, .inl rfl, by decide, by decide, by decide, rfl⟩

theorem witness_UnlistedPortBitsHaveNoEffect :
    sameOperands { Command.ofOp 0x01#8 with a := 0xFFF8#16 } (Command.ofOp 0x01#8) = true ∧
    sameOperands { Command.ofOp 0x10#8 with a := 0xFFFE#16 } (Command.ofOp 0x10#8) = true ∧
    sameOperands { Command.ofOp 0x12#8 with a := 0xFF7F#16 } { Command.ofOp 0x12#8 with a := 0x007F#16 } = true ∧
    sameOperands { Command.ofOp 0x13#8 with b := 0x0001#16 } (Command.ofOp 0x13#8) = true ∧
    sameOperands { Command.ofOp 0x17#8 with vlen := 3#4 } (Command.ofOp 0x17#8) = true ∧
    sameOperands { Command.ofOp 0x18#8 with v := ⟨0x0180, 0, 0, 0, 0, 0, 0, 0⟩ }
      { Command.ofOp 0x18#8 with v := ⟨0x0080, 0, 0, 0, 0, 0, 0, 0⟩ } = true ∧
    sameOperands { Command.ofOp 0x19#8 with a := 0x0001#16 } (Command.ofOp 0x19#8) = true ∧
    sameOperands { Command.ofOp 0x30#8 with a := 0x0001#16, b := 0x0001#16, vlen := 15#4 } (Command.ofOp 0x30#8) = true ∧
    sameOperands { Command.ofOp 0x41#8 with v := ⟨0x01FF, 2, 3, 4, 0, 0, 0, 0⟩, vlen := 3#4 }
      { Command.ofOp 0x41#8 with v := ⟨0x00FF, 2, 3, 5, 0, 0, 0, 0⟩, vlen := 3#4 } = true ∧
    sameOperands { Command.ofOp 0x41#8 with v := ⟨1, 2, 3, 4, 0, 0, 0, 0⟩, vlen := 5#4 }
      { Command.ofOp 0x41#8 with vlen := 5#4 } = true ∧
    sameOperands { Command.ofOp 0x42#8 with v := ⟨7, 1, 0, 0, 0, 0, 0, 0⟩, vlen := 4#4 }
      { Command.ofOp 0x42#8 with v := ⟨7, 2, 0, 0, 0, 0, 0, 0⟩, vlen := 4#4 } = true := by decide

theorem witness_StepRunsTheDecodedCommand :
    (issued State.reset (.scale 0x98E0#16)).nextAction = .command (encode (.scale 0x98E0#16)) ∧
    decode (encode (.scale 0x98E0#16)) = .ok (.scale 0x98E0#16) ∧
    (issued State.reset (.scale 0x98E0#16)).host = .command (encode (.scale 0x98E0#16)) :: [] :=
  ⟨rfl, rfl, rfl⟩

theorem witness_PlacedTableWordIsRunNext : decodeTableWord 24 0x7FFF13 = some (.atb16 0x7FFF#16) := by decide

theorem witness_SnapshotChangesAlterNoRegister :
    ({ extended with host := [.snapshot ex2] } : State).nextAction = .snapshot ex2 := rfl

theorem witness_ResetLeavesExactlyTheResetValues :
    ({ extended with host := [.reset], snap := ex2 } : State).nextAction = .reset ∧
    ∃ t, step { extended with host := [.reset], snap := ex2 } = .next t := ⟨rfl, _, rfl⟩

theorem witness_CommonChecksComeInOrder :
    (inState .aborted).hsState = .aborted ∧
    (inState .flushPre).hsState ≠ .aborted ∧ decode (Command.ofOp 0x50#8) = .error (.reservedOp 0x50#8) ∧
    (inState .flushPost).hsState.busy = true ∧ decode (encode .update) = .ok .update ∧
    extended.Accepts ∧ pureCommand (.bta8 true) = true :=
  ⟨rfl, by decide, rfl, rfl, rfl, by decide, rfl⟩

theorem witness_RefusalsChangeNothingElse :
    ∃ t, issue (encode .update) State.reset = .next t ∧ t.lastErr ≠ .none ∧ t.lastErr ≠ .txIo ∧ t.lastErr ≠ .rxIo :=
  ⟨_, rfl, by decide, by decide, by decide⟩

theorem witness_LastErrIsNotSticky :
    (left .flushPost .ioErr .ok).nextAction = .idle ∧
    ∃ t, step (left .flushPost .ioErr .ok) = .next t ∧ t.lastErr ≠ (left .flushPost .ioErr .ok).lastErr :=
  ⟨rfl, _, rfl, by decide⟩

theorem witness_CommandsRaiseOnlyTheirCodes :
    ∃ t, exec .update { extended with writes := [.ioErr 0], reads := [.timeout] } = .next t ∧ t.lastErr = .txIo :=
  ⟨_, rfl, rfl⟩

/-- The hypothesis of the statements about commands that no common check refuses, at each state that meets it; and the
operation codes of their encodings. -/
theorem witness_Accepts :
    State.reset.Accepts ∧ minimal.Accepts ∧ extended.Accepts ∧ logOnly.Accepts := by decide

theorem witness_ButtonToAnalogGivesTheExtremes :
    minimal.Accepts ∧ (Command.ofOp 0x10#8).op = 0x10#8 ∧ (Command.ofOp 0x11#8).op = 0x11#8 := by decide

theorem witness_AnalogToButtonComparesWithTheMidpoint :
    logOnly.Accepts ∧ (Command.ofOp 0x12#8).op = 0x12#8 ∧ (Command.ofOp 0x13#8).op = 0x13#8 := by decide

theorem witness_ScaleForWireIsAnArithmeticShift : extended.Accepts ∧ (Command.ofOp 0x14#8).op = 0x14#8 := by decide

theorem witness_HalfAxisPositiveMap : State.reset.Accepts ∧ (Command.ofOp 0x15#8).op = 0x15#8 := by decide

theorem witness_HalfAxisNegativeMap : State.reset.Accepts ∧ (Command.ofOp 0x16#8).op = 0x16#8 := by decide

theorem witness_StickNormalisationIsLinearAndSaturating :
    State.reset.Accepts ∧ 0 ≤ (0#16).toInt ∧ (0#16).toInt ≤ 0 ∧ -9 ≤ (0xFFF7#16).toInt ∧ (0x0009#16).toInt ≤ 9 ∧
    (0x745E#16).toInt ≥ 29790 ∧ (0x8BA2#16).toInt ≤ -29790 ∧ (Command.ofOp 0x17#8).op = 0x17#8 := by decide

theorem witness_CollapsePutsLaneIInBitSevenMinusI :
    State.reset.Accepts ∧ 0 < (lanesList Lanes.zero).length ∧ 7 < (lanesList Lanes.zero).length ∧ 7#4 ≠ 8#4 ∧
    9#4 ≠ 8#4 ∧ (Command.ofOp 0x18#8).op = 0x18#8 ∧ (Command.ofOp 0x19#8).op = 0x19#8 := by decide

theorem witness_BuildersStoreTheFrameImage :
    extended.Accepts ∧ (Command.ofOp 0x21#8).op = 0x21#8 ∧ (Command.ofOp 0x22#8).op = 0x22#8 := by decide

theorem witness_ProbeLoadsTheNeutralFrame : minimal.Accepts ∧ (Command.ofOp 0x23#8).op = 0x23#8 := by decide

theorem witness_NeutralSnapshotBuildsTheProbeFrame :
    ({ State.reset with cfgTm := .rightStickAsTrigger, cfgNorm := true } : State).Accepts ∧
    ({ State.reset with cfgTm := .rightStickAsTrigger, cfgNorm := true } : State).snap = Snapshot.neutral := by decide

theorem witness_MinimalPacketIsThePrefix : ({ logOnly with snap := ex2 } : State).Accepts := by decide

theorem witness_ConfigLoadsOnlyBeforeTheHandshake :
    (inState .aborted).hsState = .aborted ∧ (inState .probed).hsState.busy = true ∧
    logOnly.hsState.negotiated = true ∧ State.reset.hsState = .start ∧ 3#2 = 3#2 ∧ 2#2 ≠ 3#2 ∧
    (Command.ofOp 0x01#8).op = 0x01#8 := by decide

theorem witness_HandshakeStartsOncePerSession :
    (inState .aborted).hsState = .aborted ∧ (inState .flushPost).hsState.busy = true ∧
    minimal.hsState.negotiated = true ∧ State.reset.hsState = .start ∧ (Command.ofOp 0x30#8).op = 0x30#8 := by decide

theorem witness_FlushPreStepClearsThenProbes :
    (left .flushPre .timeout .ok).nextAction = .idle ∧ (left .flushPre .timeout .ok).hsState = .flushPre ∧
    (∃ b l, (left .flushPre (.bytes [0x13#8]) .ok).dropAction.rxAnswer Config.flushReadMax = .bytes (b :: l)) ∧
    (left .flushPre .ioErr .ok).dropAction.rxAnswer Config.flushReadMax = .ioErr ∧
    (left .flushPre .timeout .ok).dropAction.rxAnswer Config.flushReadMax = .timeout ∧
    (left .flushPre (.bytes []) .ok).dropAction.rxAnswer Config.flushReadMax = .bytes [] ∧
    (left .flushPre .timeout .ok).txAnswer (frameBytes neutral20) = .ok ∧
    (left .flushPre .timeout (.ioErr 21)).txAnswer (frameBytes neutral20) = .ioErr 20 ∧
    (left .flushPre .timeout (.ioErr 0)).probePolicy = .abort ∧
    ({ left .flushPre .timeout (.ioErr 0) with probePolicy := .unknown } : State).probePolicy = .unknown :=
  ⟨rfl, rfl, ⟨_, _, rfl⟩, rfl, rfl, rfl, rfl, rfl, rfl, rfl⟩

theorem witness_ProbedStepClassifiesTheResponse :
    (left .probed .ioErr .ok).nextAction = .idle ∧ (left .probed .ioErr .ok).hsState = .probed ∧
    (left .probed .ioErr .ok).dropAction.rxAnswer 4 = .ioErr ∧ (left .probed .ioErr .ok).probePolicy = .abort ∧
    ({ left .probed .ioErr .ok with probePolicy := .unknown } : State).probePolicy = .unknown ∧
    (left .probed .timeout .ok).dropAction.rxAnswer 4 = .timeout ∧
    (left .probed (.bytes []) .ok).dropAction.rxAnswer 4 = .bytes [] ∧
    (left .probed (.bytes [0xFF#8, 0x80#8, 1#8, 2#8]) .ok).dropAction.rxAnswer 4 =
      .bytes [0xFF#8, 0x80#8, 1#8, 2#8] := by decide

theorem witness_ClassificationByTheFirstByte : (0x80#8).toNat ≥ 0x80 := by decide

theorem witness_FlushPostStepSetsTheMode :
    (left .flushPost .timeout .ok).nextAction = .idle ∧ (left .flushPost .timeout .ok).hsState = .flushPost ∧
    (∃ b l, (left .flushPost (.bytes [0x00#8]) .ok).dropAction.rxAnswer Config.flushReadMax = .bytes (b :: l)) ∧
    (left .flushPost .ioErr .ok).dropAction.rxAnswer Config.flushReadMax = .ioErr ∧
    (left .flushPost .timeout .ok).dropAction.rxAnswer Config.flushReadMax = .timeout ∧
    (left .flushPost (.bytes []) .ok).dropAction.rxAnswer Config.flushReadMax = .bytes [] ∧
    ∃ t, step { left .flushPost .timeout .ok with hsVerdict := .minimal } = .next t ∧ t.commMode ≠ .undetermined :=
  ⟨rfl, rfl, ⟨_, _, rfl⟩, rfl, rfl, rfl, _, rfl, by decide⟩

theorem witness_HandshakeTransitionsAreThoseOfTheTable :
    (issued State.reset .handshake).nextAction ≠ .reset ∧
    (∃ t, step (issued State.reset .handshake) = .next t ∧ t.hsState = .flushPre) ∧
    ∃ t, step (left .flushPre .timeout .ok) = .next t ∧ t.hsState = .probed :=
  ⟨by decide, ⟨_, rfl, rfl⟩, _, rfl, rfl⟩

theorem witness_TerminalStatesStayForTheSession :
    (issued minimal .handshake).hsState.terminal = true ∧ (inState .aborted).hsState.terminal = true ∧
    1 ≤ (issued minimal .handshake).host.length ∧ (∀ a ∈ (issued minimal .handshake).host.take 1, a ≠ .reset) ∧
    ∃ t, Sys2Proof.core.run 1 (issued minimal .handshake) = .next t :=
  ⟨rfl, rfl, by decide, by decide, _, rfl⟩

theorem witness_OnlyConfigInStartWritesTheConfiguration :
    (issued State.reset (.config 1#2 true)).nextAction ≠ .reset ∧
    ∃ t, step (issued State.reset (.config 1#2 true)) = .next t ∧ (t.cfgTm ≠ .normal ∨ t.cfgNorm ≠ false) :=
  ⟨by decide, _, rfl, by decide⟩

theorem witness_FsmStepsRunExactlyWhileBusy :
    (left .start .timeout .ok).nextAction = .idle ∧ (left .start .timeout .ok).hsState.busy = false ∧
    (left .probed .timeout .ok).nextAction = .idle ∧ (left .probed .timeout .ok).hsState.busy = true ∧
    ∃ t, step (left .probed .timeout .ok) = .next t :=
  ⟨rfl, rfl, rfl, rfl, _, rfl⟩

theorem witness_AbortedIsEnteredByFatalStepsAndLeftByReset :
    (∃ t, step (left .flushPre .timeout (.ioErr 5)) = .next t ∧ t.hsState = .aborted ∧
      (left .flushPre .timeout (.ioErr 5)).hsState ≠ .aborted) ∧
    (inState .aborted).hsState = .aborted ∧
    ∃ t, step { inState .aborted with host := [.reset] } = .next t ∧ t.hsState ≠ .aborted :=
  ⟨⟨_, rfl, rfl, by decide⟩, rfl, _, rfl, by decide⟩

/-- A second flush that meets two bytes and then silence. -/
def flushing : State :=
  { inState .flushPost with
    host := [.idle, .idle, .reset], reads := [.bytes [0#8], .bytes [0#8], .timeout] }

theorem witness_AFlushRunsAsLongAsTheDeviceSends :
    flushing.hsState = .flushPost ∧ flushing.host = List.replicate 2 HostAction.idle ++ [HostAction.reset] ∧
    flushing.reads = List.replicate 2 (RxResult.bytes [0#8]) ++ [RxResult.timeout] := ⟨rfl, rfl, rfl⟩

/-- A session's opening with the draws of 95_test_vectors.md L1.8. -/
def opening : State :=
  { State.reset with
    host := [.command (encode .handshake), .idle, .idle, .idle]
    reads := [.timeout, .bytes [0x5A#8, 0x00#8, 0x00#8, 0x00#8], .timeout]
    writes := [.ok] }

theorem witness_HandshakeResolvesTheDialect :
    opening.hsState = .start ∧ [0x5A#8, 0x00#8, 0x00#8, 0x00#8].length ≤ 4 ∧
    opening.host = .command (encode .handshake) :: .idle :: .idle :: .idle :: [] ∧
    opening.reads = .timeout :: .bytes [0x5A#8, 0x00#8, 0x00#8, 0x00#8] :: .timeout :: [] ∧
    opening.writes = .ok :: [] :=
  ⟨rfl, by decide, rfl, rfl, rfl⟩

theorem witness_BootOrderOpensASession :
    2#2 ≠ 3#2 ∧ ({ inState .aborted with host := bootActions 2#2 true 3 } : State).host =
      bootActions 2#2 true 3 ++ [] := by decide

theorem witness_ReadsAreFreeAndBounded :
    ({ State.reset with reads := [.bytes [1#8, 2#8, 3#8, 4#8, 5#8]] } : State).rxAnswer 4 =
      .bytes [1#8, 2#8, 3#8, 4#8] ∧
    ∀ l, RxResult.bytes [1#8, 2#8, 3#8, 4#8] = .bytes l → l.length ≤ 4 := by
  refine ⟨rfl, ?_⟩
  rintro l ⟨⟩
  decide

theorem witness_FailedWritesDeliverAnyPrefix : 0 ≤ (frameBytes neutral20).length ∧ 20 ≤ (frameBytes neutral20).length := by
  decide

theorem witness_OnlyWholePacketsAreWritten :
    ∃ t, step (left .flushPre .timeout .ok) = .next t ∧
      Interaction.txWrite (frameBytes neutral20) .ok ∈ t.trace := by
  refine ⟨_, rfl, ?_⟩
  simp [left, inState, State.reset, stepFlushPre, State.rxAnswer, State.nextRead, clipRead, sendProbe, State.txAnswer,
    State.nextWrite, clipWrite, loadProbe, State.dropAction, State.dropRead, State.rxRead, State.record, State.putFrame,
    autonomous]

theorem witness_EmptyReadsActAsTimeouts :
    HostAction.command (encode .update) = .idle ∨ HostAction.command (encode .update) = .command (encode .update) :=
  .inr rfl

theorem witness_TheRecordIsNeverRead : ∃ t, step (left .probed .timeout .ok) = .next t := ⟨_, rfl⟩

theorem witness_UpdateBuildsWritesReadsAndDecodes :
    (inState .aborted).hsState = .aborted ∧ (inState .flushPost).hsState.busy = true ∧ State.reset.hsState = .start ∧
    (logOnly.hsState.negotiated = true ∧ logOnly.commMode = .undetermined) ∧
    (minimal.hsState.negotiated = true ∧ minimal.commMode ≠ .undetermined ∧ minimal.commMode = .minimal) ∧
    (extended.hsState.negotiated = true ∧ extended.commMode ≠ .undetermined ∧ extended.commMode = .extended) ∧
    (Command.ofOp 0x40#8).op = 0x40#8 := by decide

theorem witness_HapticDecoderReadsBytesOneAndTwo :
    [0x5A#8, 0x80#8].length < 3 ∧ (0x01#8 ≠ 0#8 ∨ 0x00#8 ≠ 0#8) ∧ (0x00#8 ≠ 0#8 ∨ 0x01#8 ≠ 0#8) := by decide

theorem witness_HapticCommandDecodesItsLanes :
    State.reset.Accepts ∧ (4#4).toNat ≤ 4 ∧ (5#4).toNat > 4 ∧ (Command.ofOp 0x41#8).op = 0x41#8 := by decide

theorem witness_AckDecoderComparesByteZero :
    State.reset.Accepts ∧ (4#4).toNat ≤ 4 ∧ (5#4).toNat > 4 ∧ (Command.ofOp 0x42#8).op = 0x42#8 := by decide

theorem witness_UpdateTrafficIsFixedByTheDialect :
    ((∃ t, exec .update State.reset = .next t) ∧ State.reset.hsState.negotiated = false) ∧
    ((∃ t, exec .update logOnly = .next t) ∧ logOnly.commMode = .undetermined) ∧
    ((∃ t, exec .update minimal = .next t) ∧ minimal.hsState.negotiated = true ∧ minimal.commMode = .minimal) ∧
    ((∃ t, exec .update extended = .next t) ∧ extended.hsState.negotiated = true ∧ extended.commMode = .extended) :=
  ⟨⟨⟨_, rfl⟩, rfl⟩, ⟨⟨_, rfl⟩, rfl⟩, ⟨⟨_, rfl⟩, rfl, rfl⟩, ⟨_, rfl⟩, rfl, rfl⟩

theorem witness_LogOnlyModeNeverTransmits :
    (issued logOnly .update).hsState = .unknown ∧ (issued logOnly .update).commMode = .undetermined ∧
    1 ≤ (issued logOnly .update).host.length ∧ (∀ a ∈ (issued logOnly .update).host.take 1, a ≠ .reset) ∧
    ∃ t, Sys2Proof.core.run 1 (issued logOnly .update) = .next t :=
  ⟨rfl, rfl, by decide, by decide, _, rfl⟩

/-- The three negotiated states meet the session invariant. -/
theorem witness_TerminalStateFixesTheFrameLength :
    (minimal.Inv ∧ minimal.hsState.negotiated = true) ∧ (extended.Inv ∧ extended.hsState.negotiated = true) ∧
    (logOnly.Inv ∧ logOnly.hsState.negotiated = true) :=
  ⟨⟨⟨by decide, by decide, by decide, by decide, by decide, trivial⟩, rfl⟩,
   ⟨⟨by decide, by decide, by decide, by decide, by decide, trivial⟩, rfl⟩,
   ⟨⟨by decide, by decide, by decide, by decide, by decide, trivial⟩, rfl⟩⟩

theorem witness_EveryStepKeepsTheSessionInvariant :
    (issued extended .update).Inv ∧ ∃ t, step (issued extended .update) = .next t :=
  ⟨⟨by decide, by decide, by decide, by decide, by decide, trivial⟩, _, rfl⟩

theorem witness_NoStepChangesThePolicy :
    ∃ t, step { left .flushPre .timeout (.ioErr 0) with probePolicy := .unknown } = .next t := ⟨_, rfl⟩

theorem witness_AFrameHasAtMostOneUpdate :
    (CommMode.minimal = .extended ∨ ∃ p, FrameEvent.change p ∈ [FrameEvent.other, .change ex2]) ∧
    (CommMode.extended = .extended) ∧ CommMode.minimal ≠ .extended ∧ ∀ p, FrameEvent.change p ∉ [FrameEvent.other] := by
  refine ⟨.inr ⟨ex2, by decide⟩, rfl, by decide, ?_⟩
  intro p h
  simp at h

end Sys2Proof.Tests
end

section
/-! Every step answers a next state (60_exceptions.md R104): each branch of each rule is a refusal, a completion or a next
state given directly, and the combinators of the model pass that on. -/

namespace Sys2Proof.Machine

/-- The result is a next state: neither a fault nor a refusal of the model. -/
def Answers (r : StepResult) : Prop := ∃ t, r = .next t

@[simp] theorem answers_next (s : State) : Answers (.next s) := ⟨s, rfl⟩
@[simp] theorem answers_refuse (e : ErrCode) (s : State) : Answers (refuse e s) := answers_next _
@[simp] theorem answers_complete (s : State) : Answers (complete s) := answers_next _

theorem answers_ite {c : Prop} [Decidable c] {x y : StepResult} (hx : Answers x) (hy : Answers y) :
    Answers (if c then x else y) := by
  split
  · exact hx
  · exact hy

/-- The common checks refuse by a next state, so only the command's own rule matters (60_exceptions.md R107). -/
theorem answers_whenAccepted {s : State} {body : StepResult} (h : Answers body) : Answers (whenAccepted s body) :=
  answers_ite (answers_refuse _ s) (answers_ite (answers_refuse _ s) h)

theorem answers_reservedOp (s : State) : Answers (reservedOp s) :=
  answers_ite (answers_refuse _ s) (answers_refuse _ s)

theorem answers_execConfig (m : BitVec 2) (n : Bool) (s : State) : Answers (execConfig m n s) := by
  refine answers_whenAccepted (answers_ite (answers_refuse _ s) ?_)
  cases TriggerMode.ofCode m with
  | none => exact answers_refuse _ s
  | some tm => exact answers_complete _

theorem answers_execUpdate (s : State) : Answers (execUpdate s) := by
  refine answers_whenAccepted (answers_ite (answers_refuse _ s) ?_)
  cases s.commMode with
  | undetermined => exact answers_complete s
  | minimal => exact answers_next _
  | extended => exact answers_next _

theorem answers_exec (i : Instr) (s : State) : Answers (exec i s) := by
  cases i with
  | config m n => exact answers_execConfig m n s
  | update => exact answers_execUpdate s
  | col8 | col16 => exact answers_whenAccepted (answers_ite (answers_complete _) (answers_refuse _ s))
  | handshake | haptic | ackdec =>
    exact answers_whenAccepted (answers_ite (answers_refuse _ s) (answers_complete _))
  | bta8 | bta16 | atb8 | atb16 | scale | hapos | haneg | norm | build20 | build7 | probe =>
    exact answers_whenAccepted (answers_complete _)

theorem answers_issue (c : Command) (s : State) : Answers (issue c s) := by
  unfold issue
  split
  · exact answers_exec _ s
  · exact answers_reservedOp s

theorem answers_perform (a : HostAction) (s : State) : Answers (perform a s) := by
  cases a with
  | command c => exact answers_issue c s
  | snapshot p => exact answers_next _
  | reset => exact answers_next _
  | idle => exact answers_next _

/-- Settles O8: whatever action the host takes, carrying it out answers a next state. -/
theorem everyStepAnswersANextState : Obligations.EveryStepAnswersANextState :=
  fun s => answers_perform s.nextAction s.dropAction

end Sys2Proof.Machine
end

section
/-! `PROBE_ERROR_POLICY` is a parameter (00_scope.md R8): no host action writes it, a reset included (log 7, log 14). -/

namespace Sys2Proof.Machine

theorem issue_probePolicy {c : Command} {s t : State} (h : issue c s = .next t) : t.probePolicy = s.probePolicy := by
  rcases issue_cases h with ⟨i, -, hexec⟩ | ⟨_, -, hres⟩
  · obtain ⟨-, -, hpolicy, -⟩ := exec_frame hexec
    exact hpolicy
  · obtain ⟨e, rfl⟩ := reservedOp_cases hres
    exact State.setErr_probePolicy e s

theorem autonomous_probePolicy (s : State) : (autonomous s).probePolicy = s.probePolicy := by
  obtain ⟨-, -, -, hpolicy, -⟩ := autonomous_frame s
  exact hpolicy

theorem perform_probePolicy {a : HostAction} {s t : State} (h : perform a s = .next t) :
    t.probePolicy = s.probePolicy := by
  cases a with
  | command c => exact issue_probePolicy h
  | snapshot p =>
    cases h
    exact State.drive_probePolicy p s
  | reset =>
    cases h
    exact State.sessionReset_probePolicy s
  | idle =>
    cases h
    exact autonomous_probePolicy s

/-- Settles O57: taking the action up leaves the policy, and so does carrying it out. -/
theorem noStepChangesThePolicy : Obligations.NoStepChangesThePolicy := fun s _ h =>
  (perform_probePolicy h).trans (State.dropAction_probePolicy s)

end Sys2Proof.Machine
end

section
/-! What each named operation of the state does to the session invariant, one rule per operation: the operations that
leave its registers alone keep it, and the others keep it under the condition their rule states. -/

namespace Sys2Proof.Machine

/-- A frame as a write leaves it: the magic byte first, a mode byte last (41_packet_builder.md R81 item 5). -/
def Frame.Delimited (f : Frame) : Prop := f.magic = 0x5A#8 ∧ (f.mode = 0xAA#8 ∨ f.mode = 0x55#8)

theorem neutral20_delimited : neutral20.Delimited := ⟨rfl, .inr rfl⟩

theorem frame20_delimited (p : Snapshot) (tm : TriggerMode) (norm : Bool) : (frame20 p tm norm).Delimited := by
  refine ⟨rfl, ?_⟩
  cases hguide : p.guide with
  | true => exact .inl (by simp [frame20, hguide, Config.modeGuide])
  | false => exact .inr (by simp [frame20, hguide, Config.modeIdle])

/-- The rescaling does not turn a running motor off: `v * 257` is below `2 ^ 16` (43_update_haptic.md R92). -/
theorem rescale_ne_zero {v : Byte} (hv : v ≠ 0#8) : rescale v ≠ 0#16 := by
  intro h
  have hnat := congrArg BitVec.toNat h
  simp only [rescale, BitVec.toNat_ofNat] at hnat
  exact hv (BitVec.eq_of_toNat_eq (by simp only [BitVec.toNat_ofNat]; omega))

/-- The decoder answers `Stop` when both motors are off, so a `Set` has a motor on (43_update_haptic.md R93). -/
theorem hapticDecode_shaped (l : List Byte) : (hapticDecode l).shaped := by
  unfold hapticDecode
  split
  · split
    · trivial
    · rename_i small large _ hon
      refine ⟨rfl, ?_⟩
      by_cases hlarge : large = 0#8
      · exact .inr (rescale_ne_zero fun hsmall => hon ⟨hsmall, hlarge⟩)
      · exact .inl (rescale_ne_zero hlarge)
  all_goals trivial

theorem getD_eq_zero_of_rxLenOf_le {l : List Byte} {i : Nat} (hi : i < 4) (h : (rxLenOf l).val ≤ i) :
    l.getD i 0#8 = 0#8 := by
  have hlen : l.length ≤ i := by
    simp only [rxLenOf] at h
    omega
  simp [hlen]

section
variable {s : State}

theorem State.Inv.setErr (h : s.Inv) (e : ErrCode) : (s.setErr e).Inv := { h with }
theorem State.Inv.putRes (h : s.Inv) (w : Word) : (s.putRes w).Inv := { h with }
theorem State.Inv.putResPair (h : s.Inv) (w w2 : Word) : (s.putResPair w w2).Inv := { h with }
theorem State.Inv.putConfig (h : s.Inv) (tm : TriggerMode) (n : Bool) : (s.putConfig tm n).Inv := { h with }
theorem State.Inv.putAck (h : s.Inv) (b : Bool) : (s.putAck b).Inv := { h with }
theorem State.Inv.drive (h : s.Inv) (p : Snapshot) : (s.drive p).Inv := { h with }
theorem State.Inv.record (h : s.Inv) (e : Interaction) : (s.record e).Inv := { h with }

theorem State.Inv.dropAction (h : s.Inv) : s.dropAction.Inv := by
  rw [State.dropAction_eq]
  exact { h with }

theorem State.Inv.dropRead (h : s.Inv) : s.dropRead.Inv := by
  rw [State.dropRead_eq]
  exact { h with }

theorem State.Inv.dropWrite (h : s.Inv) : s.dropWrite.Inv := by
  rw [State.dropWrite_eq]
  exact { h with }

theorem State.Inv.rxRead (h : s.Inv) (n : Nat) : (s.rxRead n).Inv := h.dropRead.record _

theorem State.Inv.txWrite (h : s.Inv) (l : List Byte) : (s.txWrite l).Inv := h.dropWrite.record _

theorem State.Inv.emitRumble (h : s.Inv) (c : RumbleCmd) : (s.emitRumble c).Inv := by
  rw [emitRumble_eq]
  exact { h with }

theorem State.Inv.putFrame (h : s.Inv) {f : Frame} {n : FrameLen} (hf : f.Delimited) (hn : n ≠ .empty) :
    (s.putFrame f n).Inv :=
  { h with frame := .inr hf, probe := fun _ => hn }

theorem State.Inv.putResponse (h : s.Inv) (l : List Byte) : (s.putResponse l).Inv :=
  { h with
    response := ⟨getD_eq_zero_of_rxLenOf_le (by omega), getD_eq_zero_of_rxLenOf_le (by omega),
      getD_eq_zero_of_rxLenOf_le (by omega), getD_eq_zero_of_rxLenOf_le (by omega)⟩ }

theorem State.Inv.putRumble (h : s.Inv) {c : RumbleCmd} (hc : c.shaped) : (s.putRumble c).Inv :=
  { h with rumble := hc }

/-- Outside `MINIMAL` and `EXTENDED` there is no dialect (10_state.md R23). -/
theorem State.Inv.commMode_undetermined (h : s.Inv) (hm : s.hsState ≠ .minimal) (he : s.hsState ≠ .extended) :
    s.commMode = .undetermined := by
  obtain ⟨hminimal, hextended⟩ := h.mode
  cases hmode : s.commMode with
  | undetermined => rfl
  | minimal => exact absurd (hminimal.mp hmode) hm
  | extended => exact absurd (hextended.mp hmode) he

/-- A state that is not negotiated is in no dialect's terminal state. -/
theorem HsState.not_dialect_of_not_negotiated {g : HsState} (hg : g.negotiated = false) :
    g ≠ .minimal ∧ g ≠ .extended := by
  cases g <;> simp_all [HsState.negotiated]

/-- A move between two states that are not negotiated, under what the new one asks of the verdict and the frame. -/
theorem State.Inv.enter (h : s.Inv) {g : HsState} (hs : s.hsState.negotiated = false) (hg : g.negotiated = false)
    (hverdict : g = .start ∨ g = .flushPre ∨ g = .probed → s.hsVerdict = .undetermined)
    (hprobe : g = .probed ∨ g = .flushPost → s.txLen ≠ .empty) : (s.enter g).Inv := by
  obtain ⟨hsm, hse⟩ := HsState.not_dialect_of_not_negotiated hs
  obtain ⟨hgm, hge⟩ := HsState.not_dialect_of_not_negotiated hg
  have hmode : s.commMode = .undetermined := h.commMode_undetermined hsm hse
  refine { h with mode := ?_, verdict := ⟨hverdict, fun hn => ?_⟩, probe := ?_ }
  · simp [State.ModeMatches, hmode, hgm, hge]
  · exact absurd (hg.symm.trans hn) nofun
  · rintro (e | e | e)
    · exact hprobe (.inl e)
    · exact hprobe (.inr e)
    · exact absurd (hg.symm.trans e) nofun

/-- A fatal error ends a handshake, and `ABORTED` asks nothing of the verdict or the frame (60_exceptions.md R110). -/
theorem State.Inv.fatal (h : s.Inv) (e : ErrCode) (hs : s.hsState.negotiated = false) : (s.fatal e).Inv :=
  (h.enter (g := .aborted) hs rfl nofun nofun).setErr e

/-- The verdict is written as the second flush begins, where the invariant asks nothing of it (42_handshake_fsm.md
R84, R85). -/
theorem State.Inv.putVerdict_enter_flushPost (h : s.Inv) (m : CommMode) (hs : s.hsState.negotiated = false)
    (hlen : s.txLen ≠ .empty) : ((s.putVerdict m).enter .flushPost).Inv :=
  have hflush : (s.enter .flushPost).Inv := h.enter hs rfl nofun fun _ => hlen
  { hflush with verdict := ⟨nofun, nofun⟩ }

/-- The end of the second flush makes the verdict the mode and enters its terminal state (42_handshake_fsm.md R87). -/
theorem State.Inv.settle (h : s.Inv) (hs : s.hsState = .flushPost) : (settle s).Inv := by
  have hlen : s.txLen ≠ .empty := h.probe (.inr (.inl hs))
  refine { h with mode := ?_, verdict := ⟨?_, fun _ => rfl⟩, probe := fun _ => hlen }
  · cases hv : s.hsVerdict <;> simp [State.ModeMatches, Machine.settle, terminalOf, hv]
  · cases hv : s.hsVerdict <;> simp [Machine.settle, terminalOf, hv]

end

end Sys2Proof.Machine
end

section
/-! Every step keeps the session invariant: the FSM steps, then the instructions, then the host's actions. -/

namespace Sys2Proof.Machine

/-! ## The handshake FSM -/

theorem State.Inv.sendProbe {s : State} (h : s.Inv) (hs : s.hsState = .flushPre) : (sendProbe s).Inv := by
  obtain ⟨hunanswered, -⟩ := h.verdict
  have hverdict : s.hsVerdict = .undetermined := hunanswered (.inr (.inl hs))
  have hsent : ((loadProbe s).txWrite (frameBytes neutral20)).Inv :=
    (h.putFrame (n := .extended) neutral20_delimited nofun).txWrite _
  have hbusy : ((loadProbe s).txWrite (frameBytes neutral20)).hsState.negotiated = false := by
    simp [loadProbe, hs, HsState.negotiated]
  have hlen : ((loadProbe s).txWrite (frameBytes neutral20)).txLen ≠ .empty := by simp [loadProbe]
  rcases sendProbe_cases s with e | e | e <;> rw [e]
  · exact hsent.enter hbusy rfl (fun _ => by simp [loadProbe, hverdict]) fun _ => hlen
  · exact hsent.fatal _ hbusy
  · exact hsent.putVerdict_enter_flushPost _ hbusy hlen

theorem State.Inv.stepFlushPre {s : State} (h : s.Inv) (hs : s.hsState = .flushPre) : (stepFlushPre s).Inv := by
  have hread := h.rxRead Config.flushReadMax
  rcases stepFlushPre_cases s with e | e | e <;> rw [e]
  · exact hread
  · exact hread.fatal _ (by simp [hs, HsState.negotiated])
  · exact hread.sendProbe (by simp [hs])

theorem State.Inv.stepProbed {s : State} (h : s.Inv) (hs : s.hsState = .probed) : (stepProbed s).Inv := by
  have hread := h.rxRead Config.rxMax
  rcases stepProbed_cases s with e | ⟨l, m, -, e⟩ <;> rw [e]
  · exact hread.fatal _ (by simp [hs, HsState.negotiated])
  · exact (hread.putResponse l).putVerdict_enter_flushPost m (by simp [hs, HsState.negotiated])
      (by simpa using h.probe (.inl hs))

theorem State.Inv.stepFlushPost {s : State} (h : s.Inv) (hs : s.hsState = .flushPost) : (stepFlushPost s).Inv := by
  have hread := h.rxRead Config.flushReadMax
  rcases stepFlushPost_cases s with e | e | e <;> rw [e]
  · exact hread
  · exact hread.fatal _ (by simp [hs, HsState.negotiated])
  · exact hread.settle (by simp [hs])

theorem State.Inv.autonomous {s : State} (h : s.Inv) : (autonomous s).Inv := by
  rcases autonomous_cases s with ⟨hs, e⟩ | ⟨hs, e⟩ | ⟨hs, e⟩ | ⟨-, e⟩ <;> rw [e]
  · exact h.stepFlushPre hs
  · exact h.stepProbed hs
  · exact h.stepFlushPost hs
  · exact h

/-! ## The instructions -/

/-- Where the result is a next state, that state meets the session invariant. -/
def KeepsInv (r : StepResult) : Prop := ∀ t, r = .next t → t.Inv

theorem keepsInv_refuse {s : State} (h : s.Inv) (e : ErrCode) : KeepsInv (refuse e s) := by
  rintro _ ⟨⟩
  exact h.setErr e

theorem keepsInv_complete {s : State} (h : s.Inv) : KeepsInv (complete s) := by
  rintro _ ⟨⟩
  exact h.setErr .none

theorem keepsInv_ite {c : Prop} [Decidable c] {x y : StepResult} (hx : c → KeepsInv x) (hy : ¬c → KeepsInv y) :
    KeepsInv (if c then x else y) := by
  split
  · exact hx ‹_›
  · exact hy ‹_›

/-- The common checks refuse without an effect on the session, so only an accepted command's own rule matters
(60_exceptions.md R107). -/
theorem keepsInv_whenAccepted {s : State} {body : StepResult} (h : s.Inv) (hbody : s.Accepts → KeepsInv body) :
    KeepsInv (whenAccepted s body) := by
  intro t ht
  rcases whenAccepted_cases ht with ⟨-, rfl⟩ | ⟨-, rfl⟩ | ⟨ha, hb⟩
  · exact h.setErr _
  · exact h.setErr _
  · exact hbody ha t hb

theorem keepsInv_execConfig {s : State} (h : s.Inv) (m : BitVec 2) (n : Bool) : KeepsInv (execConfig m n s) := by
  refine keepsInv_whenAccepted h fun _ => keepsInv_ite (fun _ => keepsInv_refuse h _) fun _ => ?_
  cases TriggerMode.ofCode m with
  | none => exact keepsInv_refuse h _
  | some tm => exact keepsInv_complete (h.putConfig tm n)

/-- An accepted `HANDSHAKE` that is not refused finds the block in `START` (42_handshake_fsm.md R83). -/
theorem keepsInv_execHandshake {s : State} (h : s.Inv) : KeepsInv (execHandshake s) := by
  refine keepsInv_whenAccepted h fun ha => keepsInv_ite (fun _ => keepsInv_refuse h _) fun hn => ?_
  have hstart : s.hsState = .start := by
    rcases ha with e | e | e | e
    · exact e
    all_goals simp [e, HsState.negotiated] at hn
  obtain ⟨hunanswered, -⟩ := h.verdict
  exact keepsInv_complete (h.enter (by simpa using hn) rfl (fun _ => hunanswered (.inl hstart)) nofun)

theorem State.Inv.exchange {s : State} (h : s.Inv) {n : FrameLen} (hn : n ≠ .empty) : (exchange n s).Inv :=
  (((h.putFrame (frame20_delimited s.snap s.cfgTm s.cfgNorm) hn).txWrite _).rxRead _).putResponse _

theorem keepsInv_execUpdate {s : State} (h : s.Inv) : KeepsInv (execUpdate s) := by
  intro t ht
  rcases execUpdate_cases ht with ⟨e, rfl⟩ | ⟨-, -, ⟨-, rfl⟩ | ⟨-, rfl⟩⟩
  · exact h.setErr e
  · exact ((h.exchange (n := .minimal) nofun).putAck _).setErr _
  · exact (((h.exchange (n := .extended) nofun).putRumble (hapticDecode_shaped _)).emitRumble _).setErr _

theorem keepsInv_exec {s : State} (h : s.Inv) (i : Instr) : KeepsInv (exec i s) := by
  cases i with
  | config m n => exact keepsInv_execConfig h m n
  | handshake => exact keepsInv_execHandshake h
  | update => exact keepsInv_execUpdate h
  | bta8 | bta16 | atb8 | atb16 | scale | hapos | haneg =>
    exact keepsInv_whenAccepted h fun _ => keepsInv_complete (h.putRes _)
  | norm => exact keepsInv_whenAccepted h fun _ => keepsInv_complete (h.putResPair _ _)
  | col8 | col16 =>
    exact keepsInv_whenAccepted h fun _ =>
      keepsInv_ite (fun _ => keepsInv_complete (h.putRes _)) fun _ => keepsInv_refuse h _
  | build20 | build7 =>
    exact keepsInv_whenAccepted h fun _ => keepsInv_complete (h.putFrame (frame20_delimited _ _ _) nofun)
  | probe => exact keepsInv_whenAccepted h fun _ => keepsInv_complete (h.putFrame neutral20_delimited nofun)
  | haptic =>
    exact keepsInv_whenAccepted h fun _ =>
      keepsInv_ite (fun _ => keepsInv_refuse h _) fun _ => keepsInv_complete (h.putRumble (hapticDecode_shaped _))
  | ackdec =>
    exact keepsInv_whenAccepted h fun _ =>
      keepsInv_ite (fun _ => keepsInv_refuse h _) fun _ => keepsInv_complete (h.putRes _)

/-! ## The host's actions -/

theorem keepsInv_issue {s : State} (h : s.Inv) (c : Command) : KeepsInv (issue c s) := by
  intro t ht
  rcases issue_cases ht with ⟨i, -, hexec⟩ | ⟨-, -, hres⟩
  · exact keepsInv_exec h i t hexec
  · obtain ⟨e, rfl⟩ := reservedOp_cases hres
    exact h.setErr e

/-- Settles O55: at reset the mode and the verdict are undetermined, and the frame and response registers are empty. -/
theorem resetMeetsTheSessionInvariant : Obligations.ResetMeetsTheSessionInvariant :=
  ⟨by decide, by decide, by decide, by decide, by decide, trivial⟩

theorem State.sessionReset_inv (s : State) : s.sessionReset.Inv := { resetMeetsTheSessionInvariant with }

theorem keepsInv_perform {s : State} (h : s.Inv) (a : HostAction) : KeepsInv (perform a s) := by
  cases a with
  | command c => exact keepsInv_issue h c
  | snapshot p =>
    rintro _ ⟨⟩
    exact h.drive p
  | reset =>
    rintro _ ⟨⟩
    exact s.sessionReset_inv
  | idle =>
    rintro _ ⟨⟩
    exact h.autonomous

/-- Settles O54: taking the action up keeps the invariant, and so does carrying it out. -/
theorem everyStepKeepsTheSessionInvariant : Obligations.EveryStepKeepsTheSessionInvariant :=
  fun s t h ht => keepsInv_perform h.dropAction s.nextAction t ht

end Sys2Proof.Machine
end

section
/-! The registers only their own writers change: the configuration, the snapshot port, and all of them at reset. -/

namespace Sys2Proof.Machine

/-- A command that changes the configuration is `CONFIG`, in `START` (10_state.md R19, R20). -/
theorem issue_config {c : Command} {s t : State} (h : issue c s = .next t) :
    (t.cfgTm = s.cfgTm ∧ t.cfgNorm = s.cfgNorm) ∨ (s.hsState = .start ∧ c.op = 0x01#8) := by
  rcases issue_cases h with ⟨i, hdecode, hexec⟩ | ⟨-, -, hres⟩
  · obtain ⟨-, -, -, -, -, hkept | ⟨hstart, m, n, rfl⟩⟩ := exec_frame hexec
    · exact .inl hkept
    · exact .inr ⟨hstart, (encode_op_of_decode hdecode).symm⟩
  · obtain ⟨e, rfl⟩ := reservedOp_cases hres
    exact .inl ⟨rfl, rfl⟩

/-- Without a reset, a host action that changes the configuration issues `CONFIG`, in `START` (10_state.md R19, R20). -/
theorem perform_config {a : HostAction} {s t : State} (ha : a ≠ .reset) (h : perform a s = .next t) :
    (t.cfgTm = s.cfgTm ∧ t.cfgNorm = s.cfgNorm) ∨ (s.hsState = .start ∧ ∃ c, a = .command c ∧ c.op = 0x01#8) := by
  cases a with
  | command c => exact (issue_config h).imp_right fun ⟨hstart, hop⟩ => ⟨hstart, c, rfl, hop⟩
  | snapshot p =>
    cases h
    exact .inl ⟨State.drive_cfgTm p s, State.drive_cfgNorm p s⟩
  | reset => exact absurd rfl ha
  | idle =>
    cases h
    obtain ⟨htm, hnorm, -⟩ := autonomous_frame s
    exact .inl ⟨htm, hnorm⟩

/-- Settles O37: taking the action up leaves the configuration, and carrying it out changes it by `CONFIG` alone. -/
theorem onlyConfigInStartWritesTheConfiguration : Obligations.OnlyConfigInStartWritesTheConfiguration := by
  intro s t hreset hstep hchanged
  rcases perform_config hreset hstep with ⟨htm, hnorm⟩ | ⟨hstart, hissued⟩
  · rw [State.dropAction_cfgTm] at htm
    rw [State.dropAction_cfgNorm] at hnorm
    exact absurd hchanged (by simp [htm, hnorm])
  · exact ⟨by simpa using hstart, hissued⟩

/-- A step on which the host drives the snapshot port. -/
theorem step_of_snapshot {s : State} {p : Snapshot} (h : s.nextAction = .snapshot p) :
    step s = .next (s.dropAction.drive p) := by
  simp [step, perform, h]

/-- A step on which the host resets the block. -/
theorem step_of_reset {s : State} (h : s.nextAction = .reset) : step s = .next s.dropAction.sessionReset := by
  simp [step, perform, h]

/-- Settles O9: driving the port is the record update of its one field. -/
theorem snapshotChangesAlterNoRegister : Obligations.SnapshotChangesAlterNoRegister :=
  fun _ _ h => step_of_snapshot h

theorem frameBytes_zero {b : Byte} (h : b ∈ frameBytes Frame.zero) : b = 0#8 :=
  List.eq_of_mem_replicate (n := 20) h

/-- Settles O10: the registers of the session reset, and what it and the taking up of the action leave alone. -/
theorem resetLeavesExactlyTheResetValues : Obligations.ResetLeavesExactlyTheResetValues := by
  intro s t h ht
  obtain rfl : s.dropAction.sessionReset = t := Host.Outcome.next.inj ((step_of_reset h).symm.trans ht)
  exact ⟨rfl, rfl, rfl, rfl, rfl, rfl, rfl, rfl, fun _ => frameBytes_zero, rfl, rfl, rfl, rfl, rfl,
    State.dropAction_trace s, State.dropAction_reads s, State.dropAction_writes s⟩

end Sys2Proof.Machine
end

section
/-! `UPDATE` in the three negotiated states (43_update_haptic.md R96, R97): under the session invariant the state fixes
the mode, and the mode the transaction. -/

namespace Sys2Proof.Machine

section
variable {s : State}

/-- A negotiated state passes every check of `UPDATE`; with no dialect there is nothing to do (43_update_haptic.md
R97). -/
theorem exec_update_of_undetermined (h : s.hsState.negotiated = true) (hmode : s.commMode = .undetermined) :
    exec .update s = complete s := by
  obtain ⟨haccepts, hstart⟩ := accepts_of_negotiated h
  simp [exec, execUpdate, whenAccepted_of_accepts haccepts, hstart, hmode]

theorem exec_update_of_minimal (h : s.hsState.negotiated = true) (hmode : s.commMode = .minimal) :
    exec .update s = .next (updateMinimal s) := by
  obtain ⟨haccepts, hstart⟩ := accepts_of_negotiated h
  simp [exec, execUpdate, whenAccepted_of_accepts haccepts, hstart, hmode]

theorem exec_update_of_extended (h : s.hsState.negotiated = true) (hmode : s.commMode = .extended) :
    exec .update s = .next (updateExtended s) := by
  obtain ⟨haccepts, hstart⟩ := accepts_of_negotiated h
  simp [exec, execUpdate, whenAccepted_of_accepts haccepts, hstart, hmode]

@[simp] theorem updateMinimal_txLen : (updateMinimal s).txLen = .minimal := by
  simp [updateMinimal, exchange, afterWrite, buildFor]

@[simp] theorem updateMinimal_rumbleCmd : (updateMinimal s).rumbleCmd = s.rumbleCmd := by
  simp [updateMinimal, exchange, afterWrite, buildFor]

@[simp] theorem updateExtended_txLen : (updateExtended s).txLen = .extended := by
  simp [updateExtended, exchange, afterWrite, buildFor]

@[simp] theorem updateExtended_ackFail : (updateExtended s).ackFail = s.ackFail := by
  simp [updateExtended, exchange, afterWrite, buildFor]

end

/-- Settles O56, by the terminal state; the invariant gives the mode of each. -/
theorem terminalStateFixesTheFrameLength : Obligations.TerminalStateFixesTheFrameLength := by
  intro s hinv hneg
  obtain ⟨hminimal, hextended⟩ := hinv.mode
  obtain ⟨hs | hs | hs | hs, hstart⟩ := accepts_of_negotiated hneg
  · exact absurd hs hstart
  · exact ⟨_, exec_update_of_minimal hneg (hminimal.mpr hs),
      .inl ⟨hs, updateMinimal_txLen, updateMinimal_rumbleCmd⟩⟩
  · exact ⟨_, exec_update_of_extended hneg (hextended.mpr hs),
      .inr (.inl ⟨hs, updateExtended_txLen, updateExtended_ackFail⟩)⟩
  · have hmode : s.commMode = .undetermined := hinv.commMode_undetermined (by simp [hs]) (by simp [hs])
    exact ⟨_, exec_update_of_undetermined hneg hmode, .inr (.inr ⟨hs, rfl⟩)⟩

end Sys2Proof.Machine
end

section
/-! The transport primitives (20_memory.md R39 to R41): what an answer may be, that every such answer can be given, and
what a read or a write changes. -/

namespace Sys2Proof.Machine

/-- An answer within the bound of its read is given as it is (20_memory.md R40). -/
theorem clipRead_of_bounded {n : Nat} {r : RxResult} (h : ∀ l, r = .bytes l → l.length ≤ n) : clipRead n r = r := by
  cases r with
  | bytes l => exact clipRead_of_length_le n l (h l rfl)
  | timeout => rfl
  | ioErr => rfl

/-- A failure that delivers no more than the write holds is given as it is (20_memory.md R39). -/
theorem clipWrite_ioErr_of_le {len k : Nat} (h : k ≤ len) : clipWrite len (.ioErr k) = .ioErr k := by
  simp [clipWrite, h]

/-- A read uses up one pending answer and is recorded; it writes no register (20_memory.md R40). -/
theorem State.rxRead_eq (n : Nat) (s : State) :
    s.rxRead n = { s with
      reads := s.reads.tail, drawn := s.dropRead.drawn, trace := s.trace ++ [.rxRead n (s.rxAnswer n)] } := by
  rw [State.rxRead, State.dropRead_eq]
  rfl

/-- A write uses up one pending answer and is recorded; it writes no register (20_memory.md R39). -/
theorem State.txWrite_eq (l : List Byte) (s : State) :
    s.txWrite l = { s with
      writes := s.writes.tail, drawn := s.dropWrite.drawn, trace := s.trace ++ [.txWrite l (s.txAnswer l)] } := by
  rw [State.txWrite, State.dropWrite_eq]
  rfl

/-- A write counts a draw of the oracle only where no answer was decided (log 3). -/
theorem State.dropWrite_drawn (s : State) :
    s.dropWrite.drawn = if s.writes.isEmpty then s.drawn + 1 else s.drawn := by
  unfold State.dropWrite
  cases s.writes <;> rfl

/-- Settles O43: the clip bounds every answer and leaves an answer within the bound alone. -/
theorem readsAreFreeAndBounded : Obligations.ReadsAreFreeAndBounded := fun n s =>
  ⟨clipRead_length n s.nextRead, fun _ _ hbounded => clipRead_of_bounded hbounded, _, State.rxRead_eq n s⟩

/-- A write is accepted, or fails with some of its leading bytes delivered (20_memory.md R39). -/
theorem State.txAnswer_cases (l : List Byte) (s : State) :
    s.txAnswer l = .ok ∨ ∃ k, k ≤ l.length ∧ s.txAnswer l = .ioErr k := by
  cases h : s.txAnswer l with
  | ok => exact .inl rfl
  | ioErr k => exact .inr ⟨k, clipWrite_sent_le l.length k s.nextWrite h, rfl⟩

/-- Settles O44: the clip bounds what a failure delivers and leaves any number within the bound alone. -/
theorem failedWritesDeliverAnyPrefix : Obligations.FailedWritesDeliverAnyPrefix := fun l s =>
  ⟨State.txAnswer_cases l s, fun _ => rfl, fun _ _ hk => clipWrite_ioErr_of_le hk, _, State.txWrite_eq l s⟩

end Sys2Proof.Machine
end

section
/-! Only whole packets are written (20_memory.md R39). The relation below is between a state and a later one of the same
step; its rules say how it starts, and which operations keep it. -/

namespace Sys2Proof.Machine

/-- What was recorded between `s` and `t` writes nothing but the packet of `t`'s frame register. -/
def WritesWholePackets (s t : State) : Prop :=
  ∃ es : List Interaction, t.trace = s.trace ++ es ∧
    ∀ l w, .txWrite l w ∈ es → l = packet t.txFrame t.txLen ∧ (l.length = 7 ∨ l.length = 20)

/-- Once a frame has been written the packet has 7 or 20 bytes (10_state.md R28). -/
theorem packet_length {f : Frame} {n : FrameLen} (hn : n ≠ .empty) :
    (packet f n).length = 7 ∨ (packet f n).length = 20 := by
  cases n with
  | empty => exact absurd rfl hn
  | minimal => exact .inl rfl
  | extended => exact .inr rfl

/-- No byte sequence is written by what makes no interaction. -/
theorem writesWholePackets_of_trace_eq {s t : State} (h : t.trace = s.trace) : WritesWholePackets s t :=
  ⟨[], by simp [h], by simp⟩

/-- A packet written as it is loaded is the packet of the frame register. -/
theorem writesWholePackets_putFrame_txWrite (s : State) (f : Frame) {n : FrameLen} (hn : n ≠ .empty) :
    WritesWholePackets s ((s.putFrame f n).txWrite (packet f n)) := by
  refine ⟨_, State.txWrite_trace _ _, fun l w hmem => ?_⟩
  obtain ⟨rfl, -⟩ : l = packet f n ∧ _ := by simpa using hmem
  exact ⟨by simp, packet_length hn⟩

/-- What follows a read writes whole packets, and the read writes nothing. -/
theorem WritesWholePackets.of_rxRead {n : Nat} {s t : State} (h : WritesWholePackets (s.rxRead n) t) :
    WritesWholePackets s t := by
  obtain ⟨es, htrace, hes⟩ := h
  refine ⟨.rxRead n (s.rxAnswer n) :: es, by simp [htrace], fun l w hmem => hes l w ?_⟩
  simpa using hmem

/-- Later interactions that are no writes, with the frame register left alone, keep the relation. -/
theorem WritesWholePackets.append {s t u : State} (h : WritesWholePackets s t) (es : List Interaction)
    (hes : ∀ l w, .txWrite l w ∉ es) (htrace : u.trace = t.trace ++ es) (hframe : u.txFrame = t.txFrame)
    (hlen : u.txLen = t.txLen) : WritesWholePackets s u := by
  obtain ⟨ds, hds, hwhole⟩ := h
  refine ⟨ds ++ es, by simp [htrace, hds], fun l w hmem => ?_⟩
  rw [hframe, hlen]
  exact hwhole l w ((List.mem_append.mp hmem).resolve_right (hes l w))

/-- Changes of other registers keep the relation. -/
theorem WritesWholePackets.congr {s t u : State} (h : WritesWholePackets s t) (htrace : u.trace = t.trace)
    (hframe : u.txFrame = t.txFrame) (hlen : u.txLen = t.txLen) : WritesWholePackets s u :=
  h.append [] (by simp) (by simp [htrace]) hframe hlen

/-- `rumbleCalls` are no writes (43_update_haptic.md R95). -/
theorem txWrite_notMem_rumbleCalls (c : RumbleCmd) (l : List Byte) (w : TxResult) :
    .txWrite l w ∉ rumbleCalls c := by
  cases c <;> simp [rumbleCalls]

/-! ## The handshake FSM -/

/-- The probe is the one thing the handshake writes, and the probe frame is loaded before (42_handshake_fsm.md R84). -/
theorem sendProbe_writesWholePackets (s : State) : WritesWholePackets s (sendProbe s) := by
  have hsent : WritesWholePackets s ((loadProbe s).txWrite (frameBytes neutral20)) :=
    writesWholePackets_putFrame_txWrite s neutral20 (n := .extended) nofun
  rcases sendProbe_cases s with e | e | e <;> (rw [e]; exact hsent.congr rfl rfl rfl)

theorem autonomous_writesWholePackets (s : State) : WritesWholePackets s (autonomous s) := by
  have hread : ∀ n, WritesWholePackets s (s.rxRead n) := fun _ => .of_rxRead (writesWholePackets_of_trace_eq rfl)
  rcases autonomous_cases s with ⟨-, e⟩ | ⟨-, e⟩ | ⟨-, e⟩ | ⟨-, e⟩ <;> rw [e]
  · rcases stepFlushPre_cases s with e | e | e <;> rw [e]
    · exact hread _
    · exact (hread _).congr rfl rfl rfl
    · exact .of_rxRead (sendProbe_writesWholePackets _)
  · rcases stepProbed_cases s with e | ⟨l, m, -, e⟩ <;> (rw [e]; exact (hread _).congr rfl rfl rfl)
  · rcases stepFlushPost_cases s with e | e | e <;> rw [e]
    · exact hread _
    · exact (hread _).congr rfl rfl rfl
    · exact (hread _).congr rfl rfl rfl
  · exact writesWholePackets_of_trace_eq rfl

/-! ## The instructions -/

/-- An update writes the packet of the frame it has just built, then reads (43_update_haptic.md R96). -/
theorem exchange_writesWholePackets {n : FrameLen} (hn : n ≠ .empty) (s : State) :
    WritesWholePackets s (exchange n s) := by
  have hwritten : WritesWholePackets s (afterWrite n s) := writesWholePackets_putFrame_txWrite s _ hn
  refine hwritten.append [.rxRead Config.rxMax (updateAnswer n s)] (by simp) ?_ ?_ ?_ <;>
    simp [exchange, updateAnswer]

theorem execUpdate_writesWholePackets {s t : State} (h : execUpdate s = .next t) : WritesWholePackets s t := by
  rcases execUpdate_cases h with ⟨e, rfl⟩ | ⟨-, -, ⟨-, rfl⟩ | ⟨-, rfl⟩⟩
  · exact writesWholePackets_of_trace_eq rfl
  · exact (exchange_writesWholePackets (n := .minimal) nofun s).congr rfl rfl rfl
  · refine (exchange_writesWholePackets (n := .extended) nofun s).append _
      (txWrite_notMem_rumbleCalls (hapticDecode (updateBytes .extended s))) ?_ ?_ ?_ <;>
      simp [updateExtended, emitRumble_eq]

/-- `UPDATE` is the one instruction that reaches the transport. -/
theorem exec_writesWholePackets {i : Instr} {s t : State} (h : exec i s = .next t) : WritesWholePackets s t := by
  by_cases hi : i = .update
  · subst hi
    exact execUpdate_writesWholePackets h
  · obtain ⟨htrace, -⟩ := exec_quiet h hi
    exact writesWholePackets_of_trace_eq htrace

/-! ## The host's actions -/

theorem perform_writesWholePackets {a : HostAction} {s t : State} (h : perform a s = .next t) :
    WritesWholePackets s t := by
  cases a with
  | command c =>
    rcases issue_cases h with ⟨i, -, hexec⟩ | ⟨-, -, hres⟩
    · exact exec_writesWholePackets hexec
    · obtain ⟨e, rfl⟩ := reservedOp_cases hres
      exact writesWholePackets_of_trace_eq rfl
  | snapshot p =>
    cases h
    exact writesWholePackets_of_trace_eq rfl
  | reset =>
    cases h
    exact writesWholePackets_of_trace_eq rfl
  | idle =>
    cases h
    exact autonomous_writesWholePackets s

/-- Settles O45: taking the action up records nothing, and carrying it out writes whole packets alone. -/
theorem onlyWholePacketsAreWritten : Obligations.OnlyWholePacketsAreWritten := by
  intro s t h
  obtain ⟨es, htrace, hes⟩ := perform_writesWholePackets h
  exact ⟨es, by rw [htrace, State.dropAction_trace], hes⟩

end Sys2Proof.Machine
end

section
/-! A zero-length read acts as a timeout (20_memory.md R40). After the read the two states differ in the record alone,
and every operation keeps two such states alike. -/

namespace Sys2Proof.Machine

/-- The two states differ in the record of the world outside, if at all (log 10). -/
def SameButRecord (s u : State) : Prop := ∃ past : List Interaction, u = { s with trace := past }

section
variable {s u : State}

/-- What neither reads nor writes the record keeps the two states alike. -/
theorem SameButRecord.map (h : SameButRecord s u) {f : State → State}
    (hf : ∀ (x : State) (past : List Interaction), f { x with trace := past } = { f x with trace := past }) :
    SameButRecord (f s) (f u) := by
  obtain ⟨past, rfl⟩ := h
  exact ⟨past, hf s past⟩

theorem SameButRecord.emitRumble (h : SameButRecord s u) (c : RumbleCmd) :
    SameButRecord (s.emitRumble c) (u.emitRumble c) := by
  obtain ⟨past, rfl⟩ := h
  rw [emitRumble_eq, emitRumble_eq]
  exact ⟨_, rfl⟩

theorem SameButRecord.txWrite (h : SameButRecord s u) (l : List Byte) : SameButRecord (s.txWrite l) (u.txWrite l) := by
  obtain ⟨past, rfl⟩ := h
  rw [State.txWrite_eq, State.txWrite_eq, State.dropWrite_drawn, State.dropWrite_drawn]
  exact ⟨_, rfl⟩

theorem SameButRecord.txAnswer_eq (h : SameButRecord s u) (l : List Byte) : u.txAnswer l = s.txAnswer l := by
  obtain ⟨past, rfl⟩ := h
  rfl

theorem SameButRecord.probePolicy_eq (h : SameButRecord s u) : u.probePolicy = s.probePolicy := by
  obtain ⟨past, rfl⟩ := h
  rfl

/-- Sending the probe does not read the record (42_handshake_fsm.md R84). -/
theorem SameButRecord.sendProbe (h : SameButRecord s u) : SameButRecord (sendProbe s) (sendProbe u) := by
  have hloaded : SameButRecord (loadProbe s) (loadProbe u) := h.map (f := loadProbe) fun _ _ => rfl
  have hsent := hloaded.txWrite (frameBytes neutral20)
  unfold Machine.sendProbe
  rw [hloaded.txAnswer_eq, h.probePolicy_eq]
  cases (loadProbe s).txAnswer (frameBytes neutral20) with
  | ok => exact hsent.map (f := State.enter .probed) fun _ _ => rfl
  | ioErr k =>
    cases s.probePolicy with
    | abort => exact hsent.map (f := State.fatal .fatalIo) fun _ _ => rfl
    | unknown => exact hsent.map (f := fun x => (x.putVerdict .undetermined).enter .flushPost) fun _ _ => rfl

end

/-- `s` with `r` as the device's answer to the next read, and `rest` after it (log 3). -/
def State.answering (r : RxResult) (rest : List RxResult) (s : State) : State := { s with reads := r :: rest }

section
variable (rest : List RxResult) (s : State)

theorem State.rxAnswer_answering_empty (n : Nat) : (s.answering (.bytes []) rest).rxAnswer n = .bytes [] :=
  clipRead_of_length_le n [] (Nat.zero_le n)

theorem State.rxAnswer_answering_timeout (n : Nat) : (s.answering .timeout rest).rxAnswer n = .timeout := rfl

/-- The two answers are told apart by the record of the read alone. -/
theorem rxRead_sameButRecord (n : Nat) :
    SameButRecord ((s.answering (.bytes []) rest).rxRead n) ((s.answering .timeout rest).rxRead n) :=
  ⟨_, rfl⟩

/-! ## The handshake FSM -/

theorem stepFlushPre_sameButRecord :
    SameButRecord (stepFlushPre (s.answering (.bytes []) rest)) (stepFlushPre (s.answering .timeout rest)) := by
  simp only [stepFlushPre, State.rxAnswer_answering_empty, State.rxAnswer_answering_timeout]
  exact (rxRead_sameButRecord rest s _).sendProbe

/-- An empty response is classified as no response is (42_handshake_fsm.md R85, R86). -/
theorem stepProbed_sameButRecord :
    SameButRecord (stepProbed (s.answering (.bytes []) rest)) (stepProbed (s.answering .timeout rest)) := by
  simp only [stepProbed, State.rxAnswer_answering_empty, State.rxAnswer_answering_timeout]
  exact (rxRead_sameButRecord rest s _).map (f := takeProbeResponse [] .undetermined) fun _ _ => rfl

theorem stepFlushPost_sameButRecord :
    SameButRecord (stepFlushPost (s.answering (.bytes []) rest)) (stepFlushPost (s.answering .timeout rest)) := by
  simp only [stepFlushPost, State.rxAnswer_answering_empty, State.rxAnswer_answering_timeout]
  exact (rxRead_sameButRecord rest s _).map (f := settle) fun _ _ => rfl

/-! ## The update transaction -/

/-- A write leaves the answers to the reads alone. -/
theorem State.txWrite_answering (l : List Byte) (r : RxResult) :
    (s.answering r rest).txWrite l = (s.txWrite l).answering r rest := by
  rw [State.txWrite_eq, State.txWrite_eq, State.dropWrite_drawn, State.dropWrite_drawn]
  rfl

theorem afterWrite_answering (n : FrameLen) (r : RxResult) :
    afterWrite n (s.answering r rest) = (afterWrite n s).answering r rest :=
  State.txWrite_answering rest (buildFor n s) (updatePacket n s) r

theorem updateAnswer_answering (n : FrameLen) (r : RxResult) :
    updateAnswer n (s.answering r rest) = clipRead Config.rxMax r := by
  rw [updateAnswer, afterWrite_answering]
  rfl

theorem updateBytes_empty_eq_timeout (n : FrameLen) :
    updateBytes n (s.answering (.bytes []) rest) = updateBytes n (s.answering .timeout rest) := by
  simp [updateBytes, updateAnswer_answering, clipRead, receivedBytes]

/-- Neither answer is an error, so an update reports its write's error or none (43_update_haptic.md R98). -/
theorem updateOutcome_empty_eq_timeout (n : FrameLen) :
    updateOutcome n (s.answering (.bytes []) rest) = updateOutcome n (s.answering .timeout rest) := by
  have hwritten : updateWritten n (s.answering (.bytes []) rest) = updateWritten n (s.answering .timeout rest) := rfl
  unfold updateOutcome
  rw [hwritten, updateAnswer_answering, updateAnswer_answering]
  cases updateWritten n (s.answering .timeout rest) <;> rfl

theorem exchange_sameButRecord (n : FrameLen) :
    SameButRecord (exchange n (s.answering (.bytes []) rest)) (exchange n (s.answering .timeout rest)) := by
  unfold exchange
  rw [updateBytes_empty_eq_timeout, afterWrite_answering, afterWrite_answering]
  exact (rxRead_sameButRecord rest _ _).map (f := State.putResponse _) fun _ _ => rfl

theorem updateMinimal_sameButRecord :
    SameButRecord (updateMinimal (s.answering (.bytes []) rest)) (updateMinimal (s.answering .timeout rest)) := by
  unfold updateMinimal
  rw [updateBytes_empty_eq_timeout, updateOutcome_empty_eq_timeout]
  exact (exchange_sameButRecord rest s .minimal).map (f := fun x => (x.putAck _).setErr _) fun _ _ => rfl

theorem updateExtended_sameButRecord :
    SameButRecord (updateExtended (s.answering (.bytes []) rest)) (updateExtended (s.answering .timeout rest)) := by
  unfold updateExtended
  rw [updateBytes_empty_eq_timeout, updateOutcome_empty_eq_timeout]
  have hdecoded := (exchange_sameButRecord rest s .extended).map
    (f := State.putRumble (hapticDecode (updateBytes .extended (s.answering .timeout rest)))) fun _ _ => rfl
  exact (hdecoded.emitRumble _).map (f := State.setErr _) fun _ _ => rfl

/-! ## The two host actions -/

/-- `t` and `u` agree in every register and in all that is still to be read; where no read used the answer up, nothing
was recorded since `s` either. -/
def SameEffect (t u : State) : Prop :=
  { t with trace := [], reads := rest } = { u with trace := [], reads := rest } ∧
    (t.reads = u.reads ∨ (t.trace = s.trace ∧ u.trace = s.trace))

variable {rest s}

theorem SameButRecord.sameEffect {t u : State} (h : SameButRecord t u) : SameEffect rest s t u := by
  obtain ⟨past, rfl⟩ := h
  exact ⟨rfl, .inl rfl⟩

theorem autonomous_sameEffect :
    SameEffect rest s (autonomous (s.answering (.bytes []) rest)) (autonomous (s.answering .timeout rest)) := by
  unfold autonomous
  have hsame : ∀ r, (s.answering r rest).hsState = s.hsState := fun _ => rfl
  rw [hsame, hsame]
  cases s.hsState with
  | flushPre => exact (stepFlushPre_sameButRecord rest s).sameEffect
  | probed => exact (stepProbed_sameButRecord rest s).sameEffect
  | flushPost => exact (stepFlushPost_sameButRecord rest s).sameEffect
  | start | minimal | extended | unknown | aborted => exact ⟨rfl, .inr ⟨rfl, rfl⟩⟩

/-- `UPDATE` before a handshake is refused (43_update_haptic.md R96). -/
theorem exec_update_of_start {x : State} (h : x.hsState = .start) :
    exec .update x = .next (x.setErr .notNegotiated) := by
  simp [exec, execUpdate, whenAccepted_of_accepts (.inl h), h, refuse]

/-- What `UPDATE` does is fixed by the session registers, whatever the device is about to answer: a word in `last_err`
alone, or the transaction of its dialect (43_update_haptic.md R96, R97). -/
theorem exec_update_answering_cases (rest : List RxResult) (s : State) :
    (∃ e, ∀ r, exec .update (s.answering r rest) = .next ((s.answering r rest).setErr e)) ∨
      (∀ r, exec .update (s.answering r rest) = .next (updateMinimal (s.answering r rest))) ∨
      (∀ r, exec .update (s.answering r rest) = .next (updateExtended (s.answering r rest))) := by
  by_cases hneg : s.hsState.negotiated = true
  · cases hmode : s.commMode with
    | undetermined => exact .inl ⟨.none, fun _ => exec_update_of_undetermined hneg hmode⟩
    | minimal => exact .inr (.inl fun _ => exec_update_of_minimal hneg hmode)
    | extended => exact .inr (.inr fun _ => exec_update_of_extended hneg hmode)
  · refine .inl ?_
    cases hs : s.hsState with
    | start => exact ⟨.notNegotiated, fun _ => exec_update_of_start hs⟩
    | flushPre | probed | flushPost =>
      exact ⟨.busy, fun _ => exec_of_busy (by simp [State.answering, hs, HsState.busy])⟩
    | aborted => exact ⟨.aborted, fun _ => exec_of_aborted hs⟩
    | minimal | extended | unknown => exact absurd (by rw [hs]; rfl) hneg

theorem exec_update_sameEffect (rest : List RxResult) (s : State) :
    ∃ t u, exec .update (s.answering (.bytes []) rest) = .next t ∧
      exec .update (s.answering .timeout rest) = .next u ∧ SameEffect rest s t u := by
  rcases exec_update_answering_cases rest s with ⟨e, herr⟩ | hminimal | hextended
  · exact ⟨_, _, herr _, herr _, rfl, .inr ⟨rfl, rfl⟩⟩
  · exact ⟨_, _, hminimal _, hminimal _, (updateMinimal_sameButRecord rest s).sameEffect⟩
  · exact ⟨_, _, hextended _, hextended _, (updateExtended_sameButRecord rest s).sameEffect⟩

end

/-- Settles O46: an FSM step by the state it is taken in, `UPDATE` by its dialect. -/
theorem emptyReadsActAsTimeouts : Obligations.EmptyReadsActAsTimeouts := by
  rintro s rest a (rfl | rfl)
  · exact ⟨_, _, rfl, rfl, autonomous_sameEffect⟩
  · exact exec_update_sameEffect rest s

end Sys2Proof.Machine
end

section
/-! The port as one number (30_encoding.md R49 to R51; log 8): a command is read back from its bits, so an encoded
instruction decodes to itself, and a placed word is the host's next command. -/

namespace Sys2Proof

/-- The decoder undoes the encoder, instruction by instruction (30_encoding.md R50, R51). -/
theorem decode_encode (i : Instr) : decode (encode i) = .ok i := by
  cases i with
  | config m n => exact Laws.RoundTrip.config m n
  | bta8 p => exact Laws.RoundTrip.bta8 p
  | bta16 p => exact Laws.RoundTrip.bta16 p
  | atb8 v => exact Laws.RoundTrip.atb8 v
  | atb16 v => exact Laws.RoundTrip.atb16 v
  | scale x => exact Laws.RoundTrip.scale x
  | hapos x => exact Laws.RoundTrip.hapos x
  | haneg x => exact Laws.RoundTrip.haneg x
  | norm x y => exact Laws.RoundTrip.norm x y
  | col8 vlen v => exact Laws.RoundTrip.col8 vlen v
  | col16 vlen v => exact Laws.RoundTrip.col16 vlen v
  | build20 => exact Laws.RoundTrip.build20
  | build7 => exact Laws.RoundTrip.build7
  | probe => exact Laws.RoundTrip.probe
  | handshake => exact Laws.RoundTrip.handshake
  | update => exact Laws.RoundTrip.update
  | haptic vlen r0 r1 r2 r3 => exact Laws.RoundTrip.haptic vlen r0 r1 r2 r3
  | ackdec vlen r0 => exact Laws.RoundTrip.ackdec vlen r0

/-- All 172 bits of a port value, taken as a table word, are that port value. -/
theorem commandOfTableWord_toBits (c : Command) : commandOfTableWord 172 c.toBits.toNat = c := by
  have hbits : c.toBits.toNat % 2 ^ 172 = c.toBits.toNat := Nat.mod_eq_of_lt c.toBits.isLt
  rw [commandOfTableWord, hbits, BitVec.ofNat_toNat, BitVec.setWidth_eq, Command.ofBits_toBits]

/-- A table word stands for an instruction exactly when the decoder reads it from the word's port value. -/
theorem decodeTableWord_eq_some {nbits w : Nat} {i : Instr} :
    decodeTableWord nbits w = some i ↔ decode (commandOfTableWord nbits w) = .ok i := by
  unfold decodeTableWord
  cases decode (commandOfTableWord nbits w) <;> simp

/-- Settles O1: the bits give back the port value, and the port value the instruction. -/
theorem everyInstructionDecodesFromItsPortBits : Obligations.EveryInstructionDecodesFromItsPortBits := by
  intro i
  rw [decodeTableWord_eq_some, commandOfTableWord_toBits]
  exact decode_encode i

/-- Settles O2, row by row of the operation-code map. -/
theorem commandsTakeTheOperandsOfTheirRow : Obligations.CommandsTakeTheOperandsOfTheirRow := by
  rintro ⟨op, a, b, v, vlen⟩
  and_intros <;> (rintro rfl; rfl)

/-- Settles O5, by evaluating the decoder on each word. -/
theorem writtenOutPortWordsDecode : Obligations.WrittenOutPortWordsDecode :=
  ⟨by decide, by decide, by decide, by decide, by decide, by decide, by decide⟩

end Sys2Proof

namespace Sys2Proof.Machine

/-- A command that decodes is its instruction carried out (60_exceptions.md R107). -/
theorem issue_of_decode {c : Command} {i : Instr} (h : decode c = .ok i) (s : State) : issue c s = exec i s := by
  rw [issue, h]

/-- A reserved `op` is answered without an instruction (30_encoding.md R52). -/
theorem issue_of_decode_error {c : Command} {e : DecodeError} (h : decode c = .error e) (s : State) :
    issue c s = reservedOp s := by
  rw [issue, h]

/-- The step after a word is placed issues that word's command on the state before placing (log 1). -/
theorem step_withFetchWord (s : State) (nbits w : Nat) :
    step (s.withFetchWord nbits w) = issue (commandOfTableWord nbits w) s := rfl

/-- Settles O7: the placed command is issued, and it decodes to the instruction. -/
theorem placedTableWordIsRunNext : Obligations.PlacedTableWordIsRunNext := by
  intro s nbits w i h
  rw [step_withFetchWord]
  exact issue_of_decode (decodeTableWord_eq_some.mp h) s

end Sys2Proof.Machine
end

section
/-! Which port values are commands, and which operand values a command's own rule refuses (30_encoding.md R52). -/

namespace Sys2Proof

/-- The reserved operation codes are those of no row of the map (30_encoding.md R51, R52). -/
theorem decode_eq_reservedOp_iff (c : Command) :
    decode c = .error (.reservedOp c.op) ↔
      (c.op.toNat = 0x00 ∨ (0x02 ≤ c.op.toNat ∧ c.op.toNat ≤ 0x0F) ∨ (0x1A ≤ c.op.toNat ∧ c.op.toNat ≤ 0x20) ∨
        (0x24 ≤ c.op.toNat ∧ c.op.toNat ≤ 0x2F) ∨ (0x31 ≤ c.op.toNat ∧ c.op.toNat ≤ 0x3F) ∨ 0x43 ≤ c.op.toNat) := by
  unfold decode
  split
  case h_19 => exact iff_of_true rfl (by grind)
  all_goals exact iff_of_false nofun (by omega)

end Sys2Proof

namespace Sys2Proof.Machine

/-! ## Refused and accepted operand values -/

/-- Outside `ABORTED` a reserved `op` is illegal, busy or not (60_exceptions.md R107). -/
theorem reservedOp_of_not_aborted {s : State} (h : s.hsState ≠ .aborted) : reservedOp s = refuse .illegalOp s :=
  if_neg h

/-- Code 3 is the only one that is no trigger mode (10_state.md R19). -/
theorem TriggerMode.ofCode_eq_none_iff (m : BitVec 2) : TriggerMode.ofCode m = none ↔ m = 3#2 := by
  revert m
  decide

section
variable {s : State}

/-- In `START` a `CONFIG` whose code is no trigger mode is refused (42_handshake_fsm.md R82). -/
theorem exec_config_of_code_none {m : BitVec 2} (h : s.hsState = .start) (hm : TriggerMode.ofCode m = none)
    (n : Bool) : exec (.config m n) s = refuse .invalidConfig s := by
  simp [exec, execConfig, whenAccepted_of_accepts (.inl h), h, hm]

/-- In `START` a `CONFIG` whose code is a trigger mode loads the configuration (42_handshake_fsm.md R82). -/
theorem exec_config_of_code_some {m : BitVec 2} {tm : TriggerMode} (h : s.hsState = .start)
    (hm : TriggerMode.ofCode m = some tm) (n : Bool) : exec (.config m n) s = complete (s.putConfig tm n) := by
  simp [exec, execConfig, whenAccepted_of_accepts (.inl h), h, hm]

/-- Where no common check refuses, a command with one operand check does what that check decides (60_exceptions.md
R107). -/
theorem whenAccepted_ite_of_pos {c : Prop} [Decidable c] {x y : StepResult} (h : s.Accepts) (hc : c) :
    whenAccepted s (if c then x else y) = x := by
  rw [whenAccepted_of_accepts h, if_pos hc]

theorem whenAccepted_ite_of_neg {c : Prop} [Decidable c] {x y : StepResult} (h : s.Accepts) (hc : ¬c) :
    whenAccepted s (if c then x else y) = y := by
  rw [whenAccepted_of_accepts h, if_neg hc]

end

/-! ## The codes of a command with legal operands -/

/-- A code that says nothing of the encoding: none of the three that R52 names. -/
abbrev ErrCode.NotOfEncoding (e : ErrCode) : Prop := e ≠ .illegalOp ∧ e ≠ .invalidConfig ∧ e ≠ .invalidInputLength

/-- Where the result is a next state, its error register holds no code of the encoding. -/
def LeavesNoEncodingError (r : StepResult) : Prop := ∀ t, r = .next t → t.lastErr.NotOfEncoding

theorem leavesNoEncodingError_refuse {e : ErrCode} (he : e.NotOfEncoding) (s : State) :
    LeavesNoEncodingError (refuse e s) := by
  rintro _ ⟨⟩
  exact he

theorem leavesNoEncodingError_complete (s : State) : LeavesNoEncodingError (complete s) :=
  leavesNoEncodingError_refuse (by decide) s

theorem leavesNoEncodingError_ite {c : Prop} [Decidable c] {x y : StepResult} (hx : c → LeavesNoEncodingError x)
    (hy : ¬c → LeavesNoEncodingError y) : LeavesNoEncodingError (if c then x else y) := by
  split
  · exact hx ‹_›
  · exact hy ‹_›

/-- The common checks refuse with codes of the session (60_exceptions.md R107). -/
theorem leavesNoEncodingError_whenAccepted {s : State} {body : StepResult} (h : LeavesNoEncodingError body) :
    LeavesNoEncodingError (whenAccepted s body) :=
  leavesNoEncodingError_ite (fun _ => leavesNoEncodingError_refuse (by decide) s) fun _ =>
    leavesNoEncodingError_ite (fun _ => leavesNoEncodingError_refuse (by decide) s) fun _ => h

theorem leavesNoEncodingError_execConfig {m : BitVec 2} (hm : m ≠ 3#2) (n : Bool) (s : State) :
    LeavesNoEncodingError (execConfig m n s) := by
  refine leavesNoEncodingError_whenAccepted
    (leavesNoEncodingError_ite (fun _ => leavesNoEncodingError_refuse (by decide) s) fun _ => ?_)
  cases hcode : TriggerMode.ofCode m with
  | none => exact absurd ((TriggerMode.ofCode_eq_none_iff m).mp hcode) hm
  | some tm => exact leavesNoEncodingError_complete _

/-- `UPDATE` reports errors of the transport alone (43_update_haptic.md R98). -/
theorem updateErr_notOfEncoding (w : TxResult) (r : RxResult) : (updateErr w r).NotOfEncoding := by
  rcases updateErr_cases w r with h | h | h <;> rw [h] <;> decide

theorem leavesNoEncodingError_execUpdate (s : State) : LeavesNoEncodingError (execUpdate s) := by
  refine leavesNoEncodingError_whenAccepted
    (leavesNoEncodingError_ite (fun _ => leavesNoEncodingError_refuse (by decide) s) fun _ => ?_)
  cases s.commMode with
  | undetermined => exact leavesNoEncodingError_complete s
  | minimal | extended =>
    rintro _ ⟨⟩
    exact updateErr_notOfEncoding _ _

theorem leavesNoEncodingError_exec {i : Instr} (h : i.wellFormed = true) (s : State) :
    LeavesNoEncodingError (exec i s) := by
  cases i with
  | config m n => exact leavesNoEncodingError_execConfig (bne_iff_ne.mp h) n s
  | update => exact leavesNoEncodingError_execUpdate s
  | handshake =>
    exact leavesNoEncodingError_whenAccepted
      (leavesNoEncodingError_ite (fun _ => leavesNoEncodingError_refuse (by decide) s) fun _ =>
        leavesNoEncodingError_complete _)
  | col8 | col16 =>
    exact leavesNoEncodingError_whenAccepted
      (leavesNoEncodingError_ite (fun _ => leavesNoEncodingError_complete _) fun hlen =>
        absurd (beq_iff_eq.mp h) hlen)
  | haptic | ackdec =>
    exact leavesNoEncodingError_whenAccepted
      (leavesNoEncodingError_ite (fun hlen => absurd (of_decide_eq_true h) (Nat.not_le.mpr hlen)) fun _ =>
        leavesNoEncodingError_complete _)
  | bta8 | bta16 | atb8 | atb16 | scale | hapos | haneg | norm | build20 | build7 | probe =>
    exact leavesNoEncodingError_whenAccepted (leavesNoEncodingError_complete _)

/-- Settles O3: the decoder by its rows, each operand check by its two branches, and the codes by the constructors. -/
theorem reservedAndIllegalEncodingsAreRefused : Obligations.ReservedAndIllegalEncodingsAreRefused := by
  refine ⟨decode_eq_reservedOp_iff, ?reserved, ?config, ?collapse, ?decoder, ?legal⟩
  case reserved =>
    intro c s hc hs
    rw [issue_of_decode_error hc, reservedOp_of_not_aborted hs]
    rfl
  case config =>
    intro m n s hs
    refine ⟨fun hm => exec_config_of_code_none hs ((TriggerMode.ofCode_eq_none_iff m).mpr hm) n, fun hm => ?_⟩
    obtain ⟨tm, htm⟩ := Option.ne_none_iff_exists'.mp (mt (TriggerMode.ofCode_eq_none_iff m).mp hm)
    rw [exec_config_of_code_some hs htm]
    exact ⟨_, rfl, rfl⟩
  case collapse =>
    intro k v w s hs
    refine ⟨fun hk => ⟨whenAccepted_ite_of_neg hs hk, whenAccepted_ite_of_neg hs hk⟩, fun hk => ?_⟩
    exact ⟨⟨_, whenAccepted_ite_of_pos hs hk, rfl⟩, _, whenAccepted_ite_of_pos hs hk, rfl⟩
  case decoder =>
    intro k r0 r1 r2 r3 s hs
    refine ⟨fun hk => ⟨whenAccepted_ite_of_pos hs hk, whenAccepted_ite_of_pos hs hk⟩, fun hk => ?_⟩
    have hlegal : ¬k.toNat > 4 := Nat.not_lt.mpr hk
    exact ⟨⟨_, whenAccepted_ite_of_neg hs hlegal, rfl⟩, _, whenAccepted_ite_of_neg hs hlegal, rfl⟩
  case legal =>
    exact fun i s t hi ht => leavesNoEncodingError_exec hi s t ht

end Sys2Proof.Machine
end

section
/-! Port fields and bits that a command does not list have no effect (30_encoding.md R50): port values that agree on the
listed ones decode to the same instruction, but for the lanes at or above `vlen` of the two decoder commands, which the
instruction carries and does not read. -/

namespace Sys2Proof.Machine

theorem lanesList_injective {α : Type} {u v : Lanes α} (h : lanesList u = lanesList v) : u = v := by
  obtain ⟨u0, u1, u2, u3, u4, u5, u6, u7⟩ := u
  obtain ⟨v0, v1, v2, v3, v4, v5, v6, v7⟩ := v
  simpa [lanesList] using h

theorem map_eq_of_lanesList_map_eq {α β : Type} {f : α → β} {u v : Lanes α}
    (h : (lanesList u).map f = (lanesList v).map f) : u.map f = v.map f :=
  lanesList_injective h

/-- The low bits of a word fix its low fields: bits 1..0 and bit 2, the operands of `CONFIG` (30_encoding.md R50). -/
theorem configFields_eq_of_low3_eq {x y : Word} (h : x.extractLsb' 0 3 = y.extractLsb' 0 3) :
    x.extractLsb' 0 2 = y.extractLsb' 0 2 ∧ x.getLsbD 2 = y.getLsbD 2 := by
  have hbit : ∀ i < 3, x.getLsbD i = y.getLsbD i := by
    intro i hi
    simpa [BitVec.getLsbD_extractLsb', hi] using congrArg (·.getLsbD i) h
  refine ⟨?_, hbit 2 (by decide)⟩
  ext i hi
  simpa [BitVec.getLsbD_extractLsb', hi] using hbit i (by omega)

/-- Port values that agree on what the decoder takes from them have the same outcome. -/
theorem issue_congr {c d : Command} (h : decode c = decode d) (s : State) : issue c s = issue d s := by
  rw [issue, issue, h]

/-! ## The two decoder commands -/

/-- The four lanes a legal `vlen` can reach hold the first `k ≤ 4` lanes of the eight. -/
theorem take_four_lanes {α : Type} {k : Nat} (hk : k ≤ 4) (v : Lanes α) :
    [v.l0, v.l1, v.l2, v.l3].take k = (lanesList v).take k := by
  have hfour : [v.l0, v.l1, v.l2, v.l3] = (lanesList v).take 4 := rfl
  rw [hfour, List.take_take, Nat.min_eq_left hk]

/-- `HAPTIC` reads the lanes below a legal `vlen`, and none with an illegal one (43_update_haptic.md R99). -/
theorem execHaptic_congr {k : BitVec 4} {r0 r1 r2 r3 q0 q1 q2 q3 : Byte}
    (h : k.toNat ≤ 4 → [r0, r1, r2, r3].take k.toNat = [q0, q1, q2, q3].take k.toNat) (s : State) :
    execHaptic k r0 r1 r2 r3 s = execHaptic k q0 q1 q2 q3 s := by
  unfold execHaptic
  by_cases hk : k.toNat > 4
  · rw [if_pos hk, if_pos hk]
  · rw [h (Nat.not_lt.mp hk)]

/-- `ACKDEC` reads lane 0 when a legal `vlen` reaches it, and nothing otherwise (43_update_haptic.md R100). -/
theorem execAckdec_congr {k : BitVec 4} {r q : Byte} (h : k.toNat ≠ 0 → k.toNat ≤ 4 → r = q) (s : State) :
    execAckdec k r s = execAckdec k q s := by
  unfold execAckdec
  by_cases hk : k.toNat > 4
  · rw [if_pos hk, if_pos hk]
  · by_cases hzero : k.toNat = 0
    · rw [hzero, List.take_zero, List.take_zero]
    · rw [h hzero (Nat.not_lt.mp hk)]

theorem decode_of_op_haptic {c : Command} (h : c.op.toNat = 0x41) :
    decode c = .ok (.haptic c.vlen (lowByte c.v.l0) (lowByte c.v.l1) (lowByte c.v.l2) (lowByte c.v.l3)) := by
  simp only [decode, h]

theorem decode_of_op_ackdec {c : Command} (h : c.op.toNat = 0x42) :
    decode c = .ok (.ackdec c.vlen (lowByte c.v.l0)) := by
  simp only [decode, h]

/-- With equal lanes below a legal `vlen` the outcome of `HAPTIC` is the same (30_encoding.md R50). -/
theorem issue_haptic_congr {c d : Command} (hc : c.op.toNat = 0x41) (hop : c.op = d.op) (hlen : c.vlen = d.vlen)
    (hlanes : c.vlen.toNat > 4 ∨
      ((lanesList c.v).map lowByte).take c.vlen.toNat = ((lanesList d.v).map lowByte).take c.vlen.toNat) (s : State) :
    issue c s = issue d s := by
  rw [issue_of_decode (decode_of_op_haptic hc), issue_of_decode (decode_of_op_haptic (hop ▸ hc)), ← hlen]
  refine execHaptic_congr (fun hk => ?_) s
  calc _ = ((lanesList c.v).map lowByte).take c.vlen.toNat := take_four_lanes hk (c.v.map lowByte)
    _ = ((lanesList d.v).map lowByte).take c.vlen.toNat := hlanes.resolve_left (Nat.not_lt.mpr hk)
    _ = _ := (take_four_lanes hk (d.v.map lowByte)).symm

/-- With an equal lane 0, where `vlen` reaches it, the outcome of `ACKDEC` is the same (30_encoding.md R50). -/
theorem issue_ackdec_congr {c d : Command} (hc : c.op.toNat = 0x42) (hop : c.op = d.op) (hlen : c.vlen = d.vlen)
    (hlane : (c.vlen.toNat = 0 ∨ c.vlen.toNat > 4) ∨ lowByte c.v.l0 = lowByte d.v.l0) (s : State) :
    issue c s = issue d s := by
  rw [issue_of_decode (decode_of_op_ackdec hc), issue_of_decode (decode_of_op_ackdec (hop ▸ hc)), ← hlen]
  exact execAckdec_congr (fun hzero hk => hlane.resolve_left (by omega)) s

/-! ## All commands -/

/-- The operation codes with no operand to agree on: the commands without operands and the reserved codes. -/
theorem decode_congr_of_no_operands {c d : Command} (hop : c.op = d.op)
    (hc : c.op.toNat ∉ [0x01, 0x10, 0x11, 0x12, 0x13, 0x14, 0x15, 0x16, 0x17, 0x18, 0x19, 0x41, 0x42]) :
    decode c = decode d := by
  simp only [List.mem_cons, List.not_mem_nil, or_false, not_or] at hc
  unfold decode
  rw [← hop]
  split <;> simp_all

/-- Settles O4, row by row of `sameOperands`: equal operands decode alike, and the two decoder commands read no lane
that `vlen` leaves out. -/
theorem unlistedPortBitsHaveNoEffect : Obligations.UnlistedPortBitsHaveNoEffect := by
  intro c d s h
  unfold sameOperands at h
  simp only [Bool.and_eq_true, beq_iff_eq] at h
  obtain ⟨hop, h⟩ := h
  split at h
  case h_1 hrow =>
    obtain ⟨hmode, hnorm⟩ := configFields_eq_of_low3_eq (beq_iff_eq.mp h)
    exact issue_congr (by simp only [decode, ← hop, hrow, hmode, hnorm]) s
  case h_2 hrow | h_3 hrow | h_4 hrow | h_5 hrow | h_6 hrow | h_7 hrow | h_8 hrow | h_9 hrow =>
    exact issue_congr (by simpa [decode, ← hop, hrow] using h) s
  case h_10 hrow =>
    simp only [Bool.and_eq_true, beq_iff_eq] at h
    obtain ⟨hlen, hlanes⟩ := h
    exact issue_congr (by simp [decode, ← hop, hrow, hlen, map_eq_of_lanesList_map_eq hlanes]) s
  case h_11 hrow =>
    simp only [Bool.and_eq_true, beq_iff_eq] at h
    obtain ⟨hlen, hlanes⟩ := h
    exact issue_congr (by simp [decode, ← hop, hrow, hlen, lanesList_injective hlanes]) s
  case h_12 hrow =>
    simp only [Bool.and_eq_true, Bool.or_eq_true, beq_iff_eq, decide_eq_true_eq] at h
    obtain ⟨hlen, hlanes⟩ := h
    exact issue_haptic_congr hrow hop hlen hlanes s
  case h_13 hrow =>
    simp only [Bool.and_eq_true, Bool.or_eq_true, beq_iff_eq, decide_eq_true_eq] at h
    obtain ⟨hlen, hlane⟩ := h
    exact issue_ackdec_congr hrow hop hlen hlane s
  case h_14 =>
    exact issue_congr (decode_congr_of_no_operands hop (by simp_all)) s

end Sys2Proof.Machine
end

section
/-! The codec's maps on integers (40_value_codec.md R64 to R67): the closed forms of the half-axis maps, the threshold of
a button, and the wire byte. -/

namespace Sys2Proof.Machine

theorem addSat_toInt (a b : Word) : (addSat a b).toInt = clampI16 (a.toInt + b.toInt) := sat16_toInt _

theorem mulSat_toInt (a b : Word) : (mulSat a b).toInt = clampI16 (a.toInt * b.toInt) := sat16_toInt _

/-- The midpoint of `i16` is 0 (R60), so a button is pressed by a positive value (R64). -/
theorem atb16_eq_true_iff (x : Word) : atb16 x = true ↔ 0 < x.toInt := by
  have hmid : midpoint (-32768) 32767 = 0 := by decide
  rw [atb16, hmid, decide_eq_true_eq, gt_iff_lt]

theorem eq_i16Max_iff (x : Word) : x = i16Max ↔ x.toInt = 32767 := by
  have hmax : i16Max.toInt = 32767 := by decide
  rw [← hmax, BitVec.toInt_inj]

/-- The positive half-axis map in closed form (R66). -/
theorem halfAxisPos_toInt (x : Word) : (halfAxisPos x).toInt = haposClosed x.toInt := by
  have hmin : i16Min.toInt = -32768 := by decide
  have hmax : i16Max.toInt = 32767 := by decide
  have hshift : (BitVec.ofInt 16 (divTrunc i16Min.toInt 2)).toInt = -16384 := by decide
  have htwo : (2#16 : Word).toInt = 2 := by decide
  have hx := toInt_bounds x
  unfold halfAxisPos haposClosed
  simp only [eq_i16Max_iff]
  split_ifs
  · exact hmax
  · exact hmin
  · rw [mulSat_toInt, addSat_toInt, hshift, htwo]
    unfold clampI16
    omega

/-- The argument of the mirrored map: `−(x + 1)`, where the saturating add keeps the negation in range (R67). -/
theorem negI16_addSat_one_toInt (x : Word) : (negI16 (addSat x 1#16)).toInt = -min (x.toInt + 1) 32767 := by
  have hone : (1#16 : Word).toInt = 1 := by decide
  have hx := toInt_bounds x
  rw [negI16, addSat_toInt, hone, clampI16, toInt_ofInt_of_bounds] <;> omega

/-- The negative half-axis map in closed form (R67). -/
theorem halfAxisNeg_toInt (x : Word) : (halfAxisNeg x).toInt = hanegClosed x.toInt := by
  have hx := toInt_bounds x
  rw [halfAxisNeg, halfAxisPos_toInt, negI16_addSat_one_toInt]
  unfold haposClosed hanegClosed
  split_ifs <;> omega

/-- The threshold of a trigger read as a button (41_packet_builder.md R75). -/
theorem atb16_halfAxisPos (x : Word) : atb16 (halfAxisPos x) = true ↔ x.toInt ≥ 16385 := by
  have hx := toInt_bounds x
  rw [atb16_eq_true_iff, halfAxisPos_toInt, haposClosed]
  split_ifs <;> omega

/-- The threshold of the stick's negative half read as a button (41_packet_builder.md R75). -/
theorem atb16_halfAxisNeg (x : Word) : atb16 (halfAxisNeg x) = true ↔ x.toInt ≤ -16386 := by
  have hx := toInt_bounds x
  rw [atb16_eq_true_iff, halfAxisNeg_toInt, hanegClosed]
  split_ifs <;> omega

/-- The wire byte of a word is that of the integer it stands for (R65). -/
theorem scaleForWire_eq_wireByte (x : Word) : scaleForWire x = wireByte x.toInt := rfl

/-- A digital input's wire byte (30_encoding.md R56). -/
theorem scaleForWire_bta16 (p : Bool) : scaleForWire (bta16 p) = digitalByte p := by
  cases p <;> decide

theorem scaleForWire_halfAxisPos (x : Word) : scaleForWire (halfAxisPos x) = wireByte (haposClosed x.toInt) := by
  rw [scaleForWire_eq_wireByte, halfAxisPos_toInt]

theorem scaleForWire_halfAxisNeg (x : Word) : scaleForWire (halfAxisNeg x) = wireByte (hanegClosed x.toInt) := by
  rw [scaleForWire_eq_wireByte, halfAxisNeg_toInt]

end Sys2Proof.Machine
end

section
/-! The bytes of a frame (30_encoding.md R55 to R57; 41_packet_builder.md R72 to R77). -/

namespace Sys2Proof.Machine

/-- Each bit of a button byte is 0 exactly when its lane is pressed (41_packet_builder.md R75). -/
theorem buttonByte_bits (v : Lanes Word) :
    (buttonByte v).getLsbD 7 = !atb16 v.l0 ∧ (buttonByte v).getLsbD 6 = !atb16 v.l1 ∧
    (buttonByte v).getLsbD 5 = !atb16 v.l2 ∧ (buttonByte v).getLsbD 4 = !atb16 v.l3 ∧
    (buttonByte v).getLsbD 3 = !atb16 v.l4 ∧ (buttonByte v).getLsbD 2 = !atb16 v.l5 ∧
    (buttonByte v).getLsbD 1 = !atb16 v.l6 ∧ (buttonByte v).getLsbD 0 = !atb16 v.l7 := by
  simpa [buttonByte, collapse16, Lanes.map] using collapseBits_bits (v.map atb16)

/-- The bit of a digital button. -/
theorem bit_of_digital {b q : Bool} (h : b = !atb16 (bta16 q)) : b = !q := by
  rw [h, atb16_bta16]

/-- The bit of a button fed by the positive half of an axis. -/
theorem bit_of_halfAxisPos {b : Bool} {x : Word} (h : b = !atb16 (halfAxisPos x)) :
    b = false ↔ x.toInt ≥ 16385 := by
  rw [h, Bool.not_eq_false', atb16_halfAxisPos]

/-- The bit of a button fed by the negative half of an axis. -/
theorem bit_of_halfAxisNeg {b : Bool} {x : Word} (h : b = !atb16 (halfAxisNeg x)) :
    b = false ↔ x.toInt ≤ -16386 := by
  rw [h, Bool.not_eq_false', atb16_halfAxisNeg]

/-- Settles O25: the bits of the two button bytes are their lanes', and a trigger-fed lane is a half-axis map. -/
theorem buttonBitsAreZeroWhenPressed : Obligations.ButtonBitsAreZeroWhenPressed := by
  intro p tm norm f
  obtain ⟨hleft, hdown, hright, hup, hstart, hr3, hl3, hselect⟩ := buttonByte_bits (buttons1Lanes (emulate p tm))
  obtain ⟨hsquare, hcross, hcircle, htriangle, hr1, hl1, hr2, hl2⟩ := buttonByte_bits (buttons2Lanes (emulate p tm))
  refine ⟨bit_of_digital hleft, bit_of_digital hdown, bit_of_digital hright, bit_of_digital hup, bit_of_digital hstart,
    bit_of_digital hr3, bit_of_digital hl3, bit_of_digital hselect, bit_of_digital hcircle, bit_of_digital htriangle,
    bit_of_digital hr1, bit_of_digital hl1, ?_⟩
  cases tm with
  | normal =>
    exact ⟨bit_of_digital hsquare, bit_of_digital hcross, bit_of_halfAxisPos hr2, bit_of_halfAxisPos hl2⟩
  | rightStickAsTrigger =>
    exact ⟨bit_of_digital hsquare, bit_of_digital hcross, bit_of_halfAxisPos hr2, bit_of_halfAxisNeg hl2⟩
  | crossSquareAsTrigger =>
    exact ⟨bit_of_halfAxisPos hsquare, bit_of_halfAxisPos hcross, bit_of_digital hr2, bit_of_digital hl2⟩

/-- Settles O27: a pressure byte is the wire byte of a digital input or of a half-axis map, by the trigger mode. -/
theorem pressureMagicAndModeBytes : Obligations.PressureMagicAndModeBytes := by
  intro p tm norm f pos
  refine ⟨rfl, rfl, scaleForWire_bta16 _, scaleForWire_bta16 _, scaleForWire_bta16 _, scaleForWire_bta16 _,
    scaleForWire_bta16 _, scaleForWire_bta16 _, scaleForWire_bta16 _, scaleForWire_bta16 _, ?_⟩
  cases tm with
  | normal =>
    exact ⟨scaleForWire_bta16 _, scaleForWire_bta16 _, scaleForWire_halfAxisPos _, scaleForWire_halfAxisPos _⟩
  | rightStickAsTrigger =>
    exact ⟨scaleForWire_bta16 _, scaleForWire_bta16 _, scaleForWire_halfAxisNeg _, scaleForWire_halfAxisPos _⟩
  | crossSquareAsTrigger =>
    exact ⟨scaleForWire_halfAxisPos _, scaleForWire_halfAxisPos _, scaleForWire_bta16 _, scaleForWire_bta16 _⟩

end Sys2Proof.Machine
end

section
/-! The value codec's commands (40_value_codec.md R61 to R70): what each value function is on integers, and that a command
which no common check refuses leaves that value in its result register and nothing else. -/

namespace Sys2Proof.Machine

/-! ## Results of a completed command -/

section
variable {s : State}

/-- A codec command with a scalar result writes `res` and `last_err` (10_state.md R26; 60_exceptions.md R105). -/
theorem whenAccepted_putRes (h : s.Accepts) {w w' : Word} (hw : w = w') :
    whenAccepted s (complete (s.putRes w)) = .next { s with res := w', lastErr := .none } := by
  rw [whenAccepted_of_accepts h, hw]
  rfl

/-- A codec command with a pair of results writes `res`, `res2` and `last_err`. -/
theorem whenAccepted_putResPair (h : s.Accepts) {w w' w2 w2' : Word} (hw : w = w') (hw2 : w2 = w2') :
    whenAccepted s (complete (s.putResPair w w2)) = .next { s with res := w', res2 := w2', lastErr := .none } := by
  rw [whenAccepted_of_accepts h, hw, hw2]
  rfl

end

/-- A word is the pattern of the integer it stands for. -/
theorem eq_ofInt_of_toInt_eq {w : Word} {n : Int} (h : w.toInt = n) : w = BitVec.ofInt 16 n := by
  rw [← h, BitVec.ofInt_toInt]

@[simp] theorem zextByte_toNat (b : Byte) : (zextByte b).toNat = b.toNat :=
  BitVec.toNat_setWidth_of_le (by decide)

theorem zextByte_getLsbD (b : Byte) {k : Nat} (hk : k < 16) : (zextByte b).getLsbD k = b.getLsbD k := by
  rw [zextByte, BitVec.getLsbD_setWidth, decide_eq_true hk, Bool.true_and]

/-- A flag word by the condition its flag decides (30_encoding.md R50). -/
theorem flagWord_eq_ite {b : Bool} {p : Prop} [Decidable p] (h : b = true ↔ p) :
    flagWord b = if p then 1#16 else 0#16 :=
  if_congr h rfl rfl

/-! ## Digital and analog (40_value_codec.md R61 to R64) -/

theorem zextByte_bta8 (p : Bool) : zextByte (bta8 p) = if p then 0x00FF#16 else 0x0000#16 := by
  cases p <;> rfl

/-- The midpoint of `u8` is 127 (R60), so a button is pressed by a byte above it (R63). -/
theorem atb8_eq_true_iff (v : Byte) : atb8 v = true ↔ v.toNat > 127 := by
  have hmid : midpoint 0 255 = 127 := by decide
  rw [atb8, hmid, decide_eq_true_eq]
  omega

/-- Settles O15: the results are the two extremes, and the operand is bit 0 by the rows of the operation-code map. -/
theorem buttonToAnalogGivesTheExtremes : Obligations.ButtonToAnalogGivesTheExtremes := by
  refine ⟨fun p s hs => ⟨whenAccepted_putRes hs (zextByte_bta8 p), whenAccepted_putRes hs rfl⟩, fun c => ?_⟩
  obtain ⟨-, hbta8, hbta16, -⟩ := commandsTakeTheOperandsOfTheirRow c
  exact ⟨hbta8, hbta16⟩

/-- Settles O16: each comparison with a midpoint is the strict threshold 127 or 0. -/
theorem analogToButtonComparesWithTheMidpoint : Obligations.AnalogToButtonComparesWithTheMidpoint := by
  refine ⟨fun v x s hs => ⟨?byte, ?word⟩, fun c => ?encoding⟩
  case byte => exact whenAccepted_putRes hs (flagWord_eq_ite (atb8_eq_true_iff v))
  case word => exact whenAccepted_putRes hs (flagWord_eq_ite (atb16_eq_true_iff x))
  case encoding =>
    obtain ⟨-, -, -, hatb8, hatb16, -⟩ := commandsTakeTheOperandsOfTheirRow c
    exact ⟨hatb8, hatb16⟩

/-! ## The wire byte (40_value_codec.md R65) -/

/-- The wire value of an `i16` is in 0..255. -/
theorem wireValue_bounds (x : Word) : 0 ≤ x.toInt / 256 + 0x80 ∧ x.toInt / 256 + 0x80 ≤ 255 := by
  have hx := toInt_bounds x
  omega

/-- The wire byte, zero extended, is the wire value itself: no bit is lost, since the value is in 0..255. -/
theorem zextByte_scaleForWire (x : Word) : zextByte (scaleForWire x) = BitVec.ofInt 16 (x.toInt / 256 + 0x80) := by
  have hx := wireValue_bounds x
  apply BitVec.eq_of_toNat_eq
  rw [zextByte_toNat, scaleForWire_eq_wireByte, wireByte, BitVec.toNat_ofInt, BitVec.toNat_ofInt]
  omega

/-- On a byte, inverting the top bit adds 0x80. -/
theorem xor_0x80_eq_add : ∀ b : Byte, b ^^^ 0x80#8 = b + 0x80#8 := by
  decide

/-- The bit form of the wire byte: the high byte with its top bit inverted. -/
theorem scaleForWire_eq_highByte_xor (x : Word) : scaleForWire x = x.extractLsb' 8 8 ^^^ 0x80#8 := by
  rw [xor_0x80_eq_add]
  apply BitVec.eq_of_toNat_eq
  rw [scaleForWire_eq_wireByte, wireByte, BitVec.toNat_ofInt, BitVec.toNat_add, BitVec.extractLsb'_toNat,
    Nat.shiftRight_eq_div_pow, BitVec.toInt_eq_toNat_cond]
  have hx := x.isLt
  split <;> (rw [BitVec.toNat_ofNat]; omega)

/-- Settles O17: the wire byte holds the whole quotient form, and equals the bit form. -/
theorem scaleForWireIsAnArithmeticShift : Obligations.ScaleForWireIsAnArithmeticShift := by
  refine ⟨fun x s hs => ?value, fun c => ?encoding⟩
  case value =>
    obtain ⟨hlo, hhi⟩ := wireValue_bounds x
    refine ⟨whenAccepted_putRes hs (zextByte_scaleForWire x), hlo, hhi, ?_⟩
    rw [← zextByte_scaleForWire, scaleForWire_eq_highByte_xor, zextByte]
  case encoding =>
    obtain ⟨-, -, -, -, -, hscale, -⟩ := commandsTakeTheOperandsOfTheirRow c
    exact hscale

/-! ## The half-axis maps (40_value_codec.md R66, R67) -/

/-- The negative map's closed form is the positive one's on the negated, off-by-one-corrected input (R67). -/
theorem hanegClosed_eq_haposClosed {x : Int} (lo : -32768 ≤ x) :
    hanegClosed x = haposClosed (0 - clampI16 (x + 1)) := by
  unfold hanegClosed haposClosed clampI16
  split_ifs <;> omega

/-- Settles O18: by the closed form of the map; its threshold is that of a trigger read as a button. -/
theorem halfAxisPositiveMap : Obligations.HalfAxisPositiveMap := by
  refine ⟨fun x s hs => ?value, fun x => ⟨halfAxisPos_toInt x, ?threshold⟩, fun c => ?encoding⟩
  case value => exact whenAccepted_putRes hs (eq_ofInt_of_toInt_eq (halfAxisPos_toInt x))
  case threshold => exact (atb16_eq_true_iff _).symm.trans (atb16_halfAxisPos x)
  case encoding =>
    obtain ⟨-, -, -, -, -, -, hhapos, -⟩ := commandsTakeTheOperandsOfTheirRow c
    exact hhapos

/-- Settles O19: by the closed form of the map, its threshold as a button, and the mirror law of the closed forms. -/
theorem halfAxisNegativeMap : Obligations.HalfAxisNegativeMap := by
  refine ⟨fun x s hs => ?value, fun x => ⟨halfAxisNeg_toInt x, ?threshold, ?mirror⟩, fun c => ?encoding⟩
  case value => exact whenAccepted_putRes hs (eq_ofInt_of_toInt_eq (halfAxisNeg_toInt x))
  case threshold => exact (atb16_eq_true_iff _).symm.trans (atb16_halfAxisNeg x)
  case mirror => exact hanegClosed_eq_haposClosed (toInt_bounds x).1
  case encoding =>
    obtain ⟨-, -, -, -, -, -, -, hhaneg, -⟩ := commandsTakeTheOperandsOfTheirRow c
    exact hhaneg

/-! ## Stick normalisation (40_value_codec.md R68) -/

theorem norm1_toInt (en : Bool) (x : Word) : (norm1 en x).toInt = normClosed en x.toInt := by
  cases en with
  | false => rfl
  | true => exact sat16_toInt _

/-- A coordinate of either sign grows by a tenth of its magnitude, rounded down, since `div` truncates toward zero
(00_scope.md R11). -/
theorem normClosed_of_nonneg {x : Int} (h : 0 ≤ x) : normClosed true x = min (x + x / 10) 32767 := by
  rw [normClosed, if_pos rfl, Int.tdiv_eq_ediv_of_nonneg h, clampI16]
  omega

theorem normClosed_of_nonpos {x : Int} (h : x ≤ 0) : normClosed true x = max (-32768) (x - -x / 10) := by
  have htdiv : x.tdiv 10 = -(-x / 10) := by
    rw [← Int.tdiv_eq_ediv_of_nonneg (by omega), Int.neg_tdiv, neg_neg]
  rw [normClosed, if_pos rfl, htdiv, clampI16]
  omega

/-- Settles O20: by the closed form of the map, on each sign of the coordinate. -/
theorem stickNormalisationIsLinearAndSaturating : Obligations.StickNormalisationIsLinearAndSaturating := by
  refine ⟨fun x y s hs => ?value, fun x => ⟨rfl, norm1_toInt true x, ?laws⟩, fun c => ?encoding⟩
  case value =>
    exact whenAccepted_putResPair hs (eq_ofInt_of_toInt_eq (norm1_toInt _ x)) (eq_ofInt_of_toInt_eq (norm1_toInt _ y))
  case laws =>
    have hx := toInt_bounds x
    rw [← BitVec.toInt_inj, norm1_toInt]
    rcases le_total 0 x.toInt with hsign | hsign
    · rw [normClosed_of_nonneg hsign]
      omega
    · rw [normClosed_of_nonpos hsign]
      omega
  case encoding =>
    obtain ⟨-, -, -, -, -, -, -, -, hnorm, -⟩ := commandsTakeTheOperandsOfTheirRow c
    exact hnorm

/-! ## Collapse (40_value_codec.md R69, R70) -/

/-- Bit `7 - i` of a collapse is what its lane `i` decides. -/
theorem collapseBits_map_getLsbD {α : Type} (f : α → Bool) (v : Lanes α) :
    ∀ i, (h : i < (lanesList v).length) → (collapseBits (v.map f)).getLsbD (7 - i) = f (lanesList v)[i] := by
  obtain ⟨h7, h6, h5, h4, h3, h2, h1, h0⟩ := collapseBits_bits (v.map f)
  intro i h
  match i, h with
  | 0, _ => exact h7
  | 1, _ => exact h6
  | 2, _ => exact h5
  | 3, _ => exact h4
  | 4, _ => exact h3
  | 5, _ => exact h2
  | 6, _ => exact h1
  | 7, _ => exact h0

/-- The result word of a collapse is a byte whose bit `7 - i` tells the condition of lane `i`. -/
theorem zextByte_collapseBits_map {α : Type} {f : α → Bool} {p : α → Prop} (hf : ∀ a, f a = true ↔ p a) (v : Lanes α) :
    (zextByte (collapseBits (v.map f))).toNat < 256 ∧
      ∀ i, (h : i < (lanesList v).length) →
        ((zextByte (collapseBits (v.map f))).getLsbD (7 - i) = true ↔ p (lanesList v)[i]) := by
  refine ⟨?_, fun i h => ?_⟩
  · rw [zextByte_toNat]
    exact (collapseBits (v.map f)).isLt
  · rw [zextByte_getLsbD _ (by omega), collapseBits_map_getLsbD f v i h, hf]

/-- Settles O21: a collapse places each lane's button, and any other `vlen` takes the refusing branch. -/
theorem collapsePutsLaneIInBitSevenMinusI : Obligations.CollapsePutsLaneIInBitSevenMinusI := by
  refine ⟨fun v s hs => ?bytes, fun v s hs => ?words, fun k v w s hs hk => ?refused, fun c => ?encoding⟩
  case bytes => exact ⟨_, whenAccepted_ite_of_pos hs rfl, zextByte_collapseBits_map atb8_eq_true_iff v⟩
  case words => exact ⟨_, whenAccepted_ite_of_pos hs rfl, zextByte_collapseBits_map atb16_eq_true_iff v⟩
  case refused => exact ⟨whenAccepted_ite_of_neg hs hk, whenAccepted_ite_of_neg hs hk⟩
  case encoding =>
    obtain ⟨-, -, -, -, -, -, -, -, -, hcol8, hcol16, -⟩ := commandsTakeTheOperandsOfTheirRow c
    exact ⟨hcol8, hcol16⟩

end Sys2Proof.Machine
end

section
/-! The stick bytes and the neutral frame (41_packet_builder.md R74, R80, R81 item 4). -/

namespace Sys2Proof.Machine

theorem subSat_toInt (a b : Word) : (subSat a b).toInt = clampI16 (a.toInt - b.toInt) := sat16_toInt _

/-- A stick byte is the wire byte of its normalised source (41_packet_builder.md R74). -/
theorem scaleForWire_norm1 (norm : Bool) (x : Word) :
    scaleForWire (norm1 norm x) = wireByte (normClosed norm x.toInt) := by
  rw [scaleForWire_eq_wireByte, norm1_toInt]

/-- Settles O26: every stick byte is a normalised source, and only the trigger mode with a difference saturates first. -/
theorem stickBytesAreScaledAfterNormalisation : Obligations.StickBytesAreScaledAfterNormalisation := by
  intro p tm norm f
  refine ⟨scaleForWire_norm1 norm p.rightX, scaleForWire_norm1 norm p.leftX, scaleForWire_norm1 norm p.leftY, ?_⟩
  have hrightY : f.rightY = wireByte (normClosed norm (rightYSource p tm).toInt) := scaleForWire_norm1 norm _
  rw [hrightY]
  cases tm with
  | normal => rfl
  | rightStickAsTrigger => rw [rightYSource, subSat_toInt]
  | crossSquareAsTrigger => rfl

/-- Normalisation keeps the centre of a stick. -/
theorem norm1_zero (norm : Bool) : norm1 norm 0#16 = 0#16 := by
  cases norm <;> decide

/-- A released button and a half-axis at 0 both give `I16_MIN`, so no trigger mode shows in the emulated fields of the
neutral snapshot, and the difference of two triggers at 0 is 0. -/
theorem emulate_neutral (tm : TriggerMode) :
    emulate Snapshot.neutral tm =
      ⟨i16Min, i16Min, i16Min, i16Min, i16Min, i16Min, i16Min, i16Min, i16Min, i16Min, i16Min, i16Min, i16Min, i16Min,
        i16Min, i16Min, 0#16⟩ := by
  cases tm <;> decide

/-- The frame of the neutral snapshot is the probe frame (41_packet_builder.md R81 item 4). -/
theorem frame20_neutral (tm : TriggerMode) (norm : Bool) : frame20 Snapshot.neutral tm norm = neutral20 := by
  simp only [frame20, emulate_neutral]
  simp only [Snapshot.neutral, norm1_zero]
  decide

end Sys2Proof.Machine
end

section
/-! The builder commands (41_packet_builder.md R78 to R81): one that no common check refuses loads its frame and its
length, and a packet is as long as its length says. -/

namespace Sys2Proof.Machine

section
variable {s : State}

/-- A builder command writes the frame register, its length and `last_err` (10_state.md R28; 60_exceptions.md R105). -/
theorem whenAccepted_putFrame (h : s.Accepts) (f : Frame) (n : FrameLen) :
    whenAccepted s (complete (s.putFrame f n)) = .next ((s.putFrame f n).setErr .none) :=
  whenAccepted_of_accepts h _

theorem exec_build20_of_accepts (h : s.Accepts) :
    exec .build20 s = .next ((buildFor .extended s).setErr .none) := whenAccepted_putFrame h _ _

theorem exec_build7_of_accepts (h : s.Accepts) :
    exec .build7 s = .next ((buildFor .minimal s).setErr .none) := whenAccepted_putFrame h _ _

theorem exec_probe_of_accepts (h : s.Accepts) :
    exec .probe s = .next ((s.putFrame neutral20 .extended).setErr .none) := whenAccepted_putFrame h _ _

/-- Building leaves the session where it was, so a later builder command is accepted as well. -/
theorem accepts_setErr_buildFor (h : s.Accepts) (n : FrameLen) (e : ErrCode) : ((buildFor n s).setErr e).Accepts := h

/-- A build reads the snapshot and the configuration, which no build writes, so a later build hides an earlier one. -/
theorem setErr_buildFor_again (m n : FrameLen) (e : ErrCode) (s : State) :
    (buildFor m ((buildFor n s).setErr e)).setErr e = (buildFor m s).setErr e := rfl

end

theorem packet_minimal (f : Frame) : packet f .minimal = (frameBytes f).take 7 := rfl

theorem packet_extended (f : Frame) : packet f .extended = frameBytes f := rfl

/-- Settles O22: the two commands load the same frame, and a packet is cut by the length alone. -/
theorem buildersStoreTheFrameImage : Obligations.BuildersStoreTheFrameImage := by
  refine ⟨fun s hs => ⟨exec_build20_of_accepts hs, exec_build7_of_accepts hs⟩, rfl, rfl,
    fun f => ⟨packet_minimal f, packet_extended f⟩, fun c => ?encoding⟩
  case encoding =>
    obtain ⟨-, -, -, -, -, -, -, -, -, -, -, hbuild20, hbuild7, -⟩ := commandsTakeTheOperandsOfTheirRow c
    exact ⟨hbuild20, hbuild7⟩

/-- Settles O23: `PROBE` loads the constant frame, whose bytes are those of R80. -/
theorem probeLoadsTheNeutralFrame : Obligations.ProbeLoadsTheNeutralFrame := by
  refine ⟨fun s hs => ⟨neutral20, exec_probe_of_accepts hs, rfl⟩, fun c => ?encoding⟩
  case encoding =>
    obtain ⟨-, -, -, -, -, -, -, -, -, -, -, -, -, hprobe, -⟩ := commandsTakeTheOperandsOfTheirRow c
    exact hprobe

/-- Settles O24: the two commands differ in the frame they load, and the neutral snapshot's is the probe frame. -/
theorem neutralSnapshotBuildsTheProbeFrame : Obligations.NeutralSnapshotBuildsTheProbeFrame := by
  intro s hs hsnap
  rw [exec_build20_of_accepts hs, exec_probe_of_accepts hs, buildFor, hsnap, frame20_neutral]

/-- Settles O28: the packets are cut from one frame, and the second build of two hides the first. -/
theorem minimalPacketIsThePrefix : Obligations.MinimalPacketIsThePrefix := by
  intro s hs
  have hs7 := accepts_setErr_buildFor hs .minimal .none
  have hs20 := accepts_setErr_buildFor hs .extended .none
  refine ⟨_, _, exec_build7_of_accepts hs, exec_build20_of_accepts hs, packet_minimal _, rfl, rfl, ?_, ?_, ?_, ?_⟩
  · rw [exec_build7_of_accepts hs7, setErr_buildFor_again]
  · rw [exec_build20_of_accepts hs20, setErr_buildFor_again]
  · rw [exec_build20_of_accepts hs7, setErr_buildFor_again]
  · rw [exec_build7_of_accepts hs20, setErr_buildFor_again]

end Sys2Proof.Machine
end

section
/-! The two session commands (42_handshake_fsm.md R82, R83): each check refuses with its code and nothing else, and in
`START` the command has its effect and nothing else. -/

namespace Sys2Proof.Machine

/-- A trigger mode read from a code has that code (10_state.md R19). -/
theorem TriggerMode.code_of_ofCode {m : BitVec 2} {tm : TriggerMode} (h : ofCode m = some tm) : tm.code = m := by
  revert m tm
  decide

section
variable {s : State}

/-- Once negotiated the configuration is locked, whatever the code (42_handshake_fsm.md R82). -/
theorem exec_config_of_negotiated (h : s.hsState.negotiated = true) (m : BitVec 2) (n : Bool) :
    exec (.config m n) s = refuse .configLocked s := by
  obtain ⟨haccepts, hstart⟩ := accepts_of_negotiated h
  exact whenAccepted_ite_of_pos haccepts hstart

/-- A handshake is not repeated in a session (42_handshake_fsm.md R83). -/
theorem exec_handshake_of_negotiated (h : s.hsState.negotiated = true) :
    exec .handshake s = refuse .alreadyNegotiated s := by
  obtain ⟨haccepts, -⟩ := accepts_of_negotiated h
  exact whenAccepted_ite_of_pos haccepts h

/-- In `START` a handshake begins with the first flush (42_handshake_fsm.md R83). -/
theorem exec_handshake_of_start (h : s.hsState = .start) : exec .handshake s = complete (s.enter .flushPre) :=
  whenAccepted_ite_of_neg (.inl h) (by simp [h, HsState.negotiated])

end

/-- Settles O29: the common checks, the lock, then the two outcomes of reading the code. -/
theorem configLoadsOnlyBeforeTheHandshake : Obligations.ConfigLoadsOnlyBeforeTheHandshake := by
  refine ⟨fun m n s => ⟨fun h => exec_of_aborted h, fun h => exec_of_busy h,
    fun h => exec_config_of_negotiated h m n, ?reserved, ?loaded⟩, fun c => ?encoding⟩
  case reserved =>
    intro h hm
    exact exec_config_of_code_none h ((TriggerMode.ofCode_eq_none_iff m).mpr hm) n
  case loaded =>
    intro h hm
    obtain ⟨tm, htm⟩ := Option.ne_none_iff_exists'.mp (mt (TriggerMode.ofCode_eq_none_iff m).mp hm)
    exact ⟨tm, TriggerMode.code_of_ofCode htm, exec_config_of_code_some h htm n⟩
  case encoding =>
    obtain ⟨hconfig, -⟩ := commandsTakeTheOperandsOfTheirRow c
    exact hconfig

/-- Settles O30: the common checks, the check of a repeated handshake, then the effect. -/
theorem handshakeStartsOncePerSession : Obligations.HandshakeStartsOncePerSession := by
  refine ⟨fun s => ⟨fun h => exec_of_aborted h, fun h => exec_of_busy h, fun h => exec_handshake_of_negotiated h,
    fun h => exec_handshake_of_start h⟩, fun c => ?encoding⟩
  case encoding =>
    obtain ⟨-, -, -, -, -, -, -, -, -, -, -, -, -, -, hhandshake, -⟩ := commandsTakeTheOperandsOfTheirRow c
    exact hhandshake

end Sys2Proof.Machine
end

section
/-! The steps of the handshake FSM, one equation for each answer of the device and each policy (42_handshake_fsm.md
R84 to R87). -/

namespace Sys2Proof.Machine

/-! ## Classification -/

/-- Settles O33: the magic byte is looked for first, and the error character is an ASCII code other than it. -/
theorem classificationByTheFirstByte : Obligations.ClassificationByTheFirstByte := by
  refine ⟨rfl, fun _ _ => rfl, fun _ => rfl, fun l => ?minimal, fun b l hb => ?other⟩
  case minimal => simp [classify, minimalErrChar_ne_magic]
  case other =>
    have hmagic : b ≠ Config.magic := by
      rintro rfl
      exact absurd hb (by decide)
    have herr : b ≠ Config.minimalErrChar := by
      rintro rfl
      exact absurd hb (Nat.not_le.mpr minimalErrChar_lt)
    simp [classify, hmagic, herr]

/-! ## One answer at a time -/

/-- What ends a flush: a timeout, or a read that brings no byte (20_memory.md R40). -/
abbrev RxResult.Silent (r : RxResult) : Prop := r = .timeout ∨ r = .bytes []

/-- The probe loaded and written, whatever the answer. -/
def probeWritten (s : State) : State := (loadProbe s).txWrite (frameBytes neutral20)

section
variable {s : State}

/-- Bytes met by a flush are discarded, and the flush goes on. -/
theorem stepFlushPre_of_bytes {b : Byte} {l : List Byte} (h : s.rxAnswer Config.flushReadMax = .bytes (b :: l)) :
    stepFlushPre s = s.rxRead Config.flushReadMax := by
  simp only [stepFlushPre, h]

theorem stepFlushPre_of_ioErr (h : s.rxAnswer Config.flushReadMax = .ioErr) :
    stepFlushPre s = (s.rxRead Config.flushReadMax).fatal .fatalIo := by
  simp only [stepFlushPre, h]

theorem stepFlushPre_of_silent (h : RxResult.Silent (s.rxAnswer Config.flushReadMax)) :
    stepFlushPre s = sendProbe (s.rxRead Config.flushReadMax) := by
  rcases h with h | h <;> simp only [stepFlushPre, h]

theorem sendProbe_of_ok (h : (loadProbe s).txAnswer (frameBytes neutral20) = .ok) :
    sendProbe s = (probeWritten s).enter .probed := by
  simp only [sendProbe, h, probeWritten]

theorem sendProbe_of_ioErr_abort {k : Nat} (h : (loadProbe s).txAnswer (frameBytes neutral20) = .ioErr k)
    (hp : s.probePolicy = .abort) : sendProbe s = (probeWritten s).fatal .fatalIo := by
  simp only [sendProbe, h, hp, probeWritten]

theorem sendProbe_of_ioErr_unknown {k : Nat} (h : (loadProbe s).txAnswer (frameBytes neutral20) = .ioErr k)
    (hp : s.probePolicy = .unknown) :
    sendProbe s = ((probeWritten s).putVerdict .undetermined).enter .flushPost := by
  simp only [sendProbe, h, hp, probeWritten]

theorem stepProbed_of_ioErr_abort (h : s.rxAnswer Config.rxMax = .ioErr) (hp : s.probePolicy = .abort) :
    stepProbed s = (s.rxRead Config.rxMax).fatal .fatalIo := by
  simp only [stepProbed, h, hp]

theorem stepProbed_of_ioErr_unknown (h : s.rxAnswer Config.rxMax = .ioErr) (hp : s.probePolicy = .unknown) :
    stepProbed s = takeProbeResponse [] .undetermined (s.rxRead Config.rxMax) := by
  simp only [stepProbed, h, hp]

theorem stepProbed_of_timeout (h : s.rxAnswer Config.rxMax = .timeout) :
    stepProbed s = takeProbeResponse [] .undetermined (s.rxRead Config.rxMax) := by
  simp only [stepProbed, h]

theorem stepProbed_of_bytes {l : List Byte} (h : s.rxAnswer Config.rxMax = .bytes l) :
    stepProbed s = takeProbeResponse l (classify l) (s.rxRead Config.rxMax) := by
  simp only [stepProbed, h]

theorem stepFlushPost_of_bytes {b : Byte} {l : List Byte} (h : s.rxAnswer Config.flushReadMax = .bytes (b :: l)) :
    stepFlushPost s = s.rxRead Config.flushReadMax := by
  simp only [stepFlushPost, h]

theorem stepFlushPost_of_ioErr (h : s.rxAnswer Config.flushReadMax = .ioErr) :
    stepFlushPost s = (s.rxRead Config.flushReadMax).fatal .fatalIo := by
  simp only [stepFlushPost, h]

theorem stepFlushPost_of_silent (h : RxResult.Silent (s.rxAnswer Config.flushReadMax)) :
    stepFlushPost s = settle (s.rxRead Config.flushReadMax) := by
  rcases h with h | h <;> simp only [stepFlushPost, h]

/-- The end of the second flush makes the verdict the mode, and fixes the terminal state and the error by it. -/
theorem settle_of_hsVerdict {m : CommMode} (h : s.hsVerdict = m) :
    settle s = { s with commMode := m, hsState := terminalOf m, lastErr := verdictErr m } := by
  subst h
  rfl

/-- A block left alone in `FLUSH_PRE` takes that state's step (42_handshake_fsm.md R91). -/
theorem step_of_idle_flushPre (ha : s.nextAction = .idle) (h : s.hsState = .flushPre) :
    step s = .next (stepFlushPre s.dropAction) := by
  simp [step_of_idle ha, autonomous, h]

theorem step_of_idle_probed (ha : s.nextAction = .idle) (h : s.hsState = .probed) :
    step s = .next (stepProbed s.dropAction) := by
  simp [step_of_idle ha, autonomous, h]

theorem step_of_idle_flushPost (ha : s.nextAction = .idle) (h : s.hsState = .flushPost) :
    step s = .next (stepFlushPost s.dropAction) := by
  simp [step_of_idle ha, autonomous, h]

end

/-- Settles O31: the answer to the read, then, where it ends the flush, the answer to the probe and the policy. -/
theorem flushPreStepClearsThenProbes : Obligations.FlushPreStepClearsThenProbes := by
  intro s ha hs u r f answer
  rw [step_of_idle_flushPre ha hs]
  refine ⟨fun b l h => ?bytes, fun h => ?failed, fun h => ?silent⟩
  case bytes => rw [stepFlushPre_of_bytes h]
  case failed =>
    rw [stepFlushPre_of_ioErr h]
    rfl
  case silent =>
    have hpolicy : r.probePolicy = s.probePolicy := by simp [r, u]
    rw [stepFlushPre_of_silent h]
    refine ⟨fun hw => ?sent, fun k hw hp => ?aborts, fun k hw hp => ?goesOn⟩
    case sent =>
      rw [sendProbe_of_ok hw]
      rfl
    case aborts =>
      rw [sendProbe_of_ioErr_abort hw (hpolicy.trans hp)]
      rfl
    case goesOn =>
      rw [sendProbe_of_ioErr_unknown hw (hpolicy.trans hp)]
      rfl

/-- Settles O32: the answer to the read and, after an error, the policy. -/
theorem probedStepClassifiesTheResponse : Obligations.ProbedStepClassifiesTheResponse := by
  intro s ha hs u r answer noResponse
  have hpolicy : u.probePolicy = s.probePolicy := State.dropAction_probePolicy s
  rw [step_of_idle_probed ha hs]
  refine ⟨fun h hp => ?aborts, fun h hp => ?goesOn, fun h => ?timeout, fun l h => ?bytes⟩
  case aborts =>
    rw [stepProbed_of_ioErr_abort h (hpolicy.trans hp)]
    rfl
  case goesOn =>
    rw [stepProbed_of_ioErr_unknown h (hpolicy.trans hp)]
    rfl
  case timeout =>
    rw [stepProbed_of_timeout h]
    rfl
  case bytes =>
    have hlen : l.length ≤ 4 := clipRead_length 4 u.nextRead l h
    rw [stepProbed_of_bytes h]
    exact ⟨rxLenOf l, Nat.min_eq_left hlen, rfl⟩

end Sys2Proof.Machine
end

section
/-! What moves `hs_state` and `comm_mode` when the block is not reset (42_handshake_fsm.md R87, R90), and that a
terminal state with its mode and configuration stays (R88). -/

namespace Sys2Proof.Machine

/-- A step on which the block is left alone, once taken. -/
theorem eq_autonomous_of_step {s t : State} (ha : s.nextAction = .idle) (h : step s = .next t) :
    t = autonomous s.dropAction :=
  (Host.Outcome.next.inj ((step_of_idle ha).symm.trans h)).symm

/-- All that a step can do, by the action the host takes (60_exceptions.md R114). -/
theorem step_cases {s t : State} (h : step s = .next t) :
    (∃ c, s.nextAction = .command c ∧ issue c s.dropAction = .next t) ∨
      (∃ p, s.nextAction = .snapshot p ∧ t = s.dropAction.drive p) ∨
      (s.nextAction = .reset ∧ t = s.dropAction.sessionReset) ∨
      (s.nextAction = .idle ∧ t = autonomous s.dropAction) := by
  cases ha : s.nextAction with
  | command c =>
    rw [step_of_command ha] at h
    exact .inl ⟨c, rfl, h⟩
  | snapshot p =>
    rw [step_of_snapshot ha] at h
    exact .inr (.inl ⟨p, rfl, (Host.Outcome.next.inj h).symm⟩)
  | reset =>
    rw [step_of_reset ha] at h
    exact .inr (.inr (.inl ⟨rfl, (Host.Outcome.next.inj h).symm⟩))
  | idle => exact .inr (.inr (.inr ⟨rfl, eq_autonomous_of_step ha h⟩))

/-! ## The edges of the transition table -/

/-- The edges of 42_handshake_fsm.md R90 that FSM steps take under a policy. -/
def FsmEdge (policy : ProbeErrorPolicy) (g h : HsState) : Prop :=
  (g = .flushPre ∧ (h = .probed ∨ h = .aborted)) ∨
    (g = .flushPre ∧ h = .flushPost ∧ policy = .unknown) ∨
    (g = .probed ∧ (h = .flushPost ∨ (h = .aborted ∧ policy = .abort))) ∨
    (g = .flushPost ∧ (h = .minimal ∨ h = .extended ∨ h = .unknown ∨ h = .aborted))

/-- The probe moves the block on, past the response only under the policy that allows it (42_handshake_fsm.md R84). -/
theorem sendProbe_fsmEdge {s : State} (hs : s.hsState = .flushPre) :
    FsmEdge s.probePolicy s.hsState (sendProbe s).hsState := by
  rw [hs]
  cases hw : (loadProbe s).txAnswer (frameBytes neutral20) with
  | ok =>
    rw [sendProbe_of_ok hw]
    exact .inl ⟨rfl, .inl rfl⟩
  | ioErr k =>
    cases hp : s.probePolicy with
    | abort =>
      rw [sendProbe_of_ioErr_abort hw hp]
      exact .inl ⟨rfl, .inr rfl⟩
    | unknown =>
      rw [sendProbe_of_ioErr_unknown hw hp]
      exact .inr (.inl ⟨rfl, rfl, rfl⟩)

theorem stepFlushPre_fsmEdge {s : State} (hs : s.hsState = .flushPre) :
    (stepFlushPre s).hsState = s.hsState ∨ FsmEdge s.probePolicy s.hsState (stepFlushPre s).hsState := by
  rcases stepFlushPre_cases s with e | e | e <;> rw [e]
  · exact .inl (State.rxRead_hsState _ s)
  · exact .inr (.inl ⟨hs, .inr rfl⟩)
  · have hedge := sendProbe_fsmEdge (s := s.rxRead Config.flushReadMax) (by simp [hs])
    rw [State.rxRead_probePolicy, State.rxRead_hsState] at hedge
    exact .inr hedge

/-- The block leaves `PROBED` at once, for `ABORTED` only under the policy that asks for it (42_handshake_fsm.md
R85). -/
theorem stepProbed_fsmEdge {s : State} (hs : s.hsState = .probed) :
    FsmEdge s.probePolicy s.hsState (stepProbed s).hsState := by
  have hresponse (l m) : FsmEdge s.probePolicy s.hsState (takeProbeResponse l m (s.rxRead Config.rxMax)).hsState :=
    .inr (.inr (.inl ⟨hs, .inl rfl⟩))
  cases hr : s.rxAnswer Config.rxMax with
  | bytes l =>
    rw [stepProbed_of_bytes hr]
    exact hresponse l _
  | timeout =>
    rw [stepProbed_of_timeout hr]
    exact hresponse [] _
  | ioErr =>
    cases hp : s.probePolicy with
    | abort =>
      rw [stepProbed_of_ioErr_abort hr hp]
      exact .inr (.inr (.inl ⟨hs, .inr ⟨rfl, rfl⟩⟩))
    | unknown =>
      rw [stepProbed_of_ioErr_unknown hr hp, ← hp]
      exact hresponse [] _

theorem stepFlushPost_fsmEdge {s : State} (hs : s.hsState = .flushPost) :
    (stepFlushPost s).hsState = s.hsState ∨ FsmEdge s.probePolicy s.hsState (stepFlushPost s).hsState := by
  rcases stepFlushPost_cases s with e | e | e <;> rw [e]
  · exact .inl (State.rxRead_hsState _ s)
  · exact .inr (.inr (.inr (.inr ⟨hs, .inr (.inr (.inr rfl))⟩)))
  · refine .inr (.inr (.inr (.inr ⟨hs, ?_⟩)))
    cases hv : s.hsVerdict <;> simp [settle, terminalOf, hv]

theorem autonomous_fsmEdge (s : State) :
    (autonomous s).hsState = s.hsState ∨ FsmEdge s.probePolicy s.hsState (autonomous s).hsState := by
  rcases autonomous_cases s with ⟨hs, e⟩ | ⟨hs, e⟩ | ⟨hs, e⟩ | ⟨-, e⟩ <;> rw [e]
  · exact stepFlushPre_fsmEdge hs
  · exact .inr (stepProbed_fsmEdge hs)
  · exact stepFlushPost_fsmEdge hs
  · exact .inl rfl

/-- A command that moves `hs_state` is `HANDSHAKE`, in `START` (42_handshake_fsm.md R83). -/
theorem issue_hsState {c : Command} {s t : State} (h : issue c s = .next t) :
    t.hsState = s.hsState ∨ (s.hsState = .start ∧ t.hsState = .flushPre ∧ c.op = 0x30#8) := by
  rcases issue_cases h with ⟨i, hdecode, hexec⟩ | ⟨-, -, hres⟩
  · rcases exec_hsState hexec with hkept | ⟨rfl, hstart, hflush⟩
    · exact .inl hkept
    · exact .inr ⟨hstart, hflush, (encode_op_of_decode hdecode).symm⟩
  · obtain ⟨e, rfl⟩ := reservedOp_cases hres
    exact .inl rfl

/-- Settles O35: by the host's action; a command starts the handshake, and the FSM takes the other edges. -/
theorem handshakeTransitionsAreThoseOfTheTable : Obligations.HandshakeTransitionsAreThoseOfTheTable := by
  intro s t hreset hstep
  rcases step_cases hstep with ⟨c, ha, hissue⟩ | ⟨p, -, rfl⟩ | ⟨ha, -⟩ | ⟨ha, rfl⟩
  · rcases issue_hsState hissue with hkept | ⟨hstart, hflush, hop⟩
    · exact .inl (by simpa using hkept)
    · exact .inr (.inl ⟨by simpa using hstart, hflush, c, ha, hop⟩)
  · exact .inl (by simp)
  · exact absurd ha hreset
  · have hmove := autonomous_fsmEdge s.dropAction
    rw [State.dropAction_hsState, State.dropAction_probePolicy] at hmove
    exact hmove.imp_right fun hedge => .inr ⟨ha, hedge⟩

/-! ## The mode -/

theorem issue_commMode {c : Command} {s t : State} (h : issue c s = .next t) : t.commMode = s.commMode := by
  rcases issue_cases h with ⟨i, -, hexec⟩ | ⟨-, -, hres⟩
  · obtain ⟨hmode, -⟩ := exec_frame hexec
    exact hmode
  · obtain ⟨e, rfl⟩ := reservedOp_cases hres
    exact State.setErr_commMode e s

/-- Without a reset, what changes the mode is the end of the second flush (10_state.md R23). -/
theorem step_commMode {s t : State} (hreset : s.nextAction ≠ .reset) (hstep : step s = .next t) :
    t.commMode = s.commMode ∨ (s.nextAction = .idle ∧ s.hsState = .flushPost ∧ t.commMode = s.hsVerdict ∧
      t.hsState.negotiated = true) := by
  rcases step_cases hstep with ⟨c, -, hissue⟩ | ⟨p, -, rfl⟩ | ⟨ha, -⟩ | ⟨ha, rfl⟩
  · exact .inl (by simpa using issue_commMode hissue)
  · exact .inl (by simp)
  · exact absurd ha hreset
  · obtain ⟨-, -, -, -, -, hmode⟩ := autonomous_frame s.dropAction
    rw [State.dropAction_commMode, State.dropAction_hsState, State.dropAction_hsVerdict] at hmode
    exact hmode.imp_right fun hset => ⟨ha, hset⟩

/-- Settles O34: the answer to the read; and no other step without a reset writes the mode. -/
theorem flushPostStepSetsTheMode : Obligations.FlushPostStepSetsTheMode := by
  refine ⟨?step, fun s t hreset hstep hchanged => (step_commMode hreset hstep).resolve_left hchanged⟩
  case step =>
    intro s ha hs u r answer
    rw [step_of_idle_flushPost ha hs]
    refine ⟨fun b l h => ?bytes, fun h => ?failed, fun h => ?silent⟩
    case bytes => rw [stepFlushPost_of_bytes h]
    case failed =>
      rw [stepFlushPost_of_ioErr h]
      rfl
    case silent =>
      have hverdict : r.hsVerdict = s.hsVerdict := by simp [r, u]
      rw [stepFlushPost_of_silent h, settle_of_hsVerdict hverdict]
      rfl

/-! ## Terminal states -/

theorem issue_host {c : Command} {s t : State} (h : issue c s = .next t) : t.host = s.host := by
  rcases issue_cases h with ⟨i, -, hexec⟩ | ⟨-, -, hres⟩
  · obtain ⟨-, -, -, hhost, -⟩ := exec_frame hexec
    exact hhost
  · obtain ⟨e, rfl⟩ := reservedOp_cases hres
    exact State.setErr_host e s

/-- Taking up and carrying out an action leaves the later ones, whichever it is. -/
theorem step_host {s t : State} (h : step s = .next t) : t.host = s.host.tail := by
  rcases step_cases h with ⟨c, -, hissue⟩ | ⟨p, -, rfl⟩ | ⟨-, rfl⟩ | ⟨-, rfl⟩
  · simpa using issue_host hissue
  · simp
  · simp
  · obtain ⟨-, -, hhost, -⟩ := autonomous_frame s.dropAction
    simpa using hhost

theorem nextAction_of_host_cons {s : State} {a : HostAction} {rest : List HostAction} (h : s.host = a :: rest) :
    s.nextAction = a := by
  simp [State.nextAction, h]

/-- What a session has settled on is the same in `t` as in `s` (42_handshake_fsm.md R88). -/
abbrev SameSession (s t : State) : Prop :=
  t.hsState = s.hsState ∧ t.commMode = s.commMode ∧ t.cfgTm = s.cfgTm ∧ t.cfgNorm = s.cfgNorm

theorem SameSession.trans {s t u : State} (h : SameSession s t) (h' : SameSession t u) : SameSession s u := by
  obtain ⟨hstate, hmode, htm, hnorm⟩ := h
  obtain ⟨hstate', hmode', htm', hnorm'⟩ := h'
  exact ⟨hstate'.trans hstate, hmode'.trans hmode, htm'.trans htm, hnorm'.trans hnorm⟩

theorem HsState.ne_start_of_terminal {g : HsState} (h : g.terminal = true) : g ≠ .start := by
  rintro rfl
  exact absurd h (by decide)

/-- A terminal state is one in which no FSM step is taken (42_handshake_fsm.md R88, R91). -/
theorem HsState.busy_of_terminal {g : HsState} (h : g.terminal = true) : g.busy = false := by
  cases g with
  | start | minimal | extended | unknown | aborted => rfl
  | flushPre | probed | flushPost => exact absurd h (by decide)

/-- No edge of the table starts in a state that is not busy (42_handshake_fsm.md R90, R91). -/
theorem FsmEdge.busy {policy : ProbeErrorPolicy} {g h : HsState} (hedge : FsmEdge policy g h) : g.busy = true := by
  rcases hedge with ⟨rfl, -⟩ | ⟨rfl, -⟩ | ⟨rfl, -⟩ | ⟨rfl, -⟩ <;> rfl

/-- Without a reset a step keeps a terminal state, its mode and the configuration (42_handshake_fsm.md R88). -/
theorem step_sameSession_of_terminal {s t : State} (hs : s.hsState.terminal = true) (hreset : s.nextAction ≠ .reset)
    (hstep : step s = .next t) : SameSession s t := by
  have hstart := HsState.ne_start_of_terminal hs
  have hbusy := HsState.busy_of_terminal hs
  refine ⟨?state, ?mode, ?config⟩
  case state =>
    rcases handshakeTransitionsAreThoseOfTheTable s t hreset hstep with hkept | ⟨h, -⟩ | ⟨-, hedge⟩
    · exact hkept
    · exact absurd h hstart
    · exact absurd (FsmEdge.busy (policy := s.probePolicy) hedge) (by simp [hbusy])
  case mode =>
    rcases step_commMode hreset hstep with hkept | ⟨-, h, -⟩
    · exact hkept
    · exact absurd hbusy (by simp [h, HsState.busy])
  case config =>
    by_contra hchanged
    obtain ⟨h, -⟩ := onlyConfigInStartWritesTheConfiguration s t hreset hstep (not_and_or.mp hchanged)
    exact hstart h

/-- Settles O36, by induction on the number of steps: each keeps the terminal state and leaves the host the rest of its
list, in which there is still no reset. -/
theorem terminalStatesStayForTheSession : Obligations.TerminalStatesStayForTheSession := by
  intro k
  induction k with
  | zero =>
    rintro s t - - - ⟨⟩
    exact ⟨rfl, rfl, rfl, rfl⟩
  | succ k ih =>
    intro s t hs hlen hreset hrun
    obtain ⟨u, hstep⟩ := everyStepAnswersANextState s
    rw [run_succ_of_step k hstep] at hrun
    obtain ⟨a, rest, hhost⟩ : ∃ a rest, s.host = a :: rest :=
      List.exists_cons_of_length_pos (by omega)
    have hnext : s.nextAction = a := nextAction_of_host_cons hhost
    have hrest : u.host = rest := by rw [step_host hstep, hhost, List.tail_cons]
    rw [hhost] at hlen hreset
    have hkept : SameSession s u :=
      step_sameSession_of_terminal hs (hnext ▸ hreset a (by simp)) hstep
    have ⟨hstate, _⟩ := hkept
    refine hkept.trans (ih u t (hstate ▸ hs) ?_ ?_ hrun)
    · rw [hrest]
      exact Nat.le_of_succ_le_succ hlen
    · rw [hrest]
      exact fun b hb => hreset b (by simp [hb])

end Sys2Proof.Machine
end

section
/-! FSM steps are taken exactly while busy, each with a transport interaction, and read neither the snapshot nor the
configuration (42_handshake_fsm.md R91). -/

namespace Sys2Proof.Machine

/-! ## Interactions -/

theorem autonomous_of_not_busy {s : State} (h : s.hsState.busy = false) : autonomous s = s := by
  rcases autonomous_cases s with ⟨hs, -⟩ | ⟨hs, -⟩ | ⟨hs, -⟩ | ⟨-, e⟩
  · exact absurd h (by simp [hs, HsState.busy])
  · exact absurd h (by simp [hs, HsState.busy])
  · exact absurd h (by simp [hs, HsState.busy])
  · exact e

/-- The probe is recorded, whatever its answer (42_handshake_fsm.md R84). -/
theorem sendProbe_trace (s : State) :
    (sendProbe s).trace =
      s.trace ++ [.txWrite (frameBytes neutral20) ((loadProbe s).txAnswer (frameBytes neutral20))] := by
  rcases sendProbe_cases s with e | e | e <;> rw [e] <;> exact State.txWrite_trace _ (loadProbe s)

/-- A busy block left alone makes at least the read of its state's step (42_handshake_fsm.md R84, R85, R87). -/
theorem autonomous_trace_length {s : State} (h : s.hsState.busy = true) :
    s.trace.length < (autonomous s).trace.length := by
  rcases autonomous_cases s with ⟨-, e⟩ | ⟨-, e⟩ | ⟨-, e⟩ | ⟨hidle, -⟩
  · rw [e]
    rcases stepFlushPre_cases s with e' | e' | e' <;> simp [e', sendProbe_trace]
  · rw [e]
    rcases stepProbed_cases s with e' | ⟨l, m, -, e'⟩ <;> simp [e', takeProbeResponse]
  · rw [e]
    rcases stepFlushPost_cases s with e' | e' | e' <;> simp [e', settle]
  · exact absurd (h.symm.trans hidle) nofun

/-! ## What no FSM step reads -/

/-- A read counts a draw of the oracle only where no answer was decided (log 3). -/
theorem State.dropRead_drawn (s : State) : s.dropRead.drawn = if s.reads.isEmpty then s.drawn + 1 else s.drawn := by
  unfold State.dropRead
  cases s.reads <;> rfl

/-- Taking up an action counts a draw of the oracle only where none was decided (log 2). -/
theorem State.dropAction_drawn (s : State) :
    s.dropAction.drawn = if s.host.isEmpty then s.drawn + 1 else s.drawn := by
  unfold State.dropAction
  cases s.host <;> rfl

/-- The state with another snapshot on the port and another configuration. -/
def State.reconfigured (p : Snapshot) (tm : TriggerMode) (n : Bool) (s : State) : State :=
  { s with snap := p, cfgTm := tm, cfgNorm := n }

section
variable (p : Snapshot) (tm : TriggerMode) (n : Bool) (s : State)

theorem State.dropAction_reconfigured :
    (s.reconfigured p tm n).dropAction = s.dropAction.reconfigured p tm n := by
  rw [State.dropAction_eq, State.dropAction_eq s, State.dropAction_drawn, State.dropAction_drawn]
  rfl

theorem State.rxRead_reconfigured (k : Nat) :
    (s.reconfigured p tm n).rxRead k = (s.rxRead k).reconfigured p tm n := by
  rw [State.rxRead_eq, State.rxRead_eq, State.dropRead_drawn, State.dropRead_drawn]
  rfl

theorem State.txWrite_reconfigured (l : List Byte) :
    (s.reconfigured p tm n).txWrite l = (s.txWrite l).reconfigured p tm n := by
  rw [State.txWrite_eq, State.txWrite_eq, State.dropWrite_drawn, State.dropWrite_drawn]
  rfl

theorem probeWritten_reconfigured :
    probeWritten (s.reconfigured p tm n) = (probeWritten s).reconfigured p tm n :=
  State.txWrite_reconfigured p tm n (loadProbe s) _

theorem sendProbe_reconfigured : sendProbe (s.reconfigured p tm n) = (sendProbe s).reconfigured p tm n := by
  have hwritten := probeWritten_reconfigured p tm n s
  cases hw : (loadProbe s).txAnswer (frameBytes neutral20) with
  | ok =>
    rw [sendProbe_of_ok hw, sendProbe_of_ok (s := s.reconfigured p tm n) hw, hwritten]
    rfl
  | ioErr k =>
    cases hp : s.probePolicy with
    | abort =>
      rw [sendProbe_of_ioErr_abort hw hp, sendProbe_of_ioErr_abort (s := s.reconfigured p tm n) hw hp, hwritten]
      rfl
    | unknown =>
      rw [sendProbe_of_ioErr_unknown hw hp, sendProbe_of_ioErr_unknown (s := s.reconfigured p tm n) hw hp, hwritten]
      rfl

theorem State.rxAnswer_reconfigured (k : Nat) : (s.reconfigured p tm n).rxAnswer k = s.rxAnswer k := rfl

theorem stepFlushPre_reconfigured :
    stepFlushPre (s.reconfigured p tm n) = (stepFlushPre s).reconfigured p tm n := by
  simp only [stepFlushPre, State.rxAnswer_reconfigured, State.rxRead_reconfigured, sendProbe_reconfigured]
  split <;> rfl

theorem stepProbed_reconfigured : stepProbed (s.reconfigured p tm n) = (stepProbed s).reconfigured p tm n := by
  have hpolicy : (s.reconfigured p tm n).probePolicy = s.probePolicy := rfl
  simp only [stepProbed, State.rxAnswer_reconfigured, State.rxRead_reconfigured, hpolicy]
  split
  · split <;> rfl
  · rfl
  · rfl

theorem stepFlushPost_reconfigured :
    stepFlushPost (s.reconfigured p tm n) = (stepFlushPost s).reconfigured p tm n := by
  simp only [stepFlushPost, State.rxAnswer_reconfigured, State.rxRead_reconfigured]
  split <;> rfl

theorem autonomous_reconfigured : autonomous (s.reconfigured p tm n) = (autonomous s).reconfigured p tm n := by
  have hstate : (s.reconfigured p tm n).hsState = s.hsState := rfl
  simp only [autonomous, hstate]
  cases s.hsState with
  | flushPre => exact stepFlushPre_reconfigured p tm n s
  | probed => exact stepProbed_reconfigured p tm n s
  | flushPost => exact stepFlushPost_reconfigured p tm n s
  | start | minimal | extended | unknown | aborted => rfl

end

/-- Settles O38: left alone, a block that is not busy rests, a busy one reads; and the snapshot and the configuration
pass through an FSM step. -/
theorem fsmStepsRunExactlyWhileBusy : Obligations.FsmStepsRunExactlyWhileBusy := by
  refine ⟨fun s ha hb => ?rests, fun s t ha hb hstep => ?interacts, fun s i hb => exec_of_busy hb,
    fun s t p tm n ha hstep => ?commutes⟩
  case rests => rw [step_of_idle ha, autonomous_of_not_busy (by simpa using hb)]
  case interacts =>
    obtain rfl := eq_autonomous_of_step ha hstep
    simpa using autonomous_trace_length (s := s.dropAction) (by simpa using hb)
  case commutes =>
    obtain rfl := eq_autonomous_of_step ha hstep
    have hidle : (s.reconfigured p tm n).nextAction = .idle := ha
    calc step (s.reconfigured p tm n)
      _ = .next (autonomous (s.reconfigured p tm n).dropAction) := step_of_idle hidle
      _ = .next ((autonomous s.dropAction).reconfigured p tm n) := by
        rw [State.dropAction_reconfigured, autonomous_reconfigured]

end Sys2Proof.Machine
end

section
/-! A whole handshake over a silent line (42_handshake_fsm.md R83 to R87): what each of its four steps leaves, where the
host's action and the device's answers are decided. -/

namespace Sys2Proof.Machine

section
variable {s : State} {h : List HostAction} {r : List RxResult} {w : List TxResult}

/-! ## Decided actions and answers -/

theorem State.dropAction_of_host_cons {a : HostAction} (hhost : s.host = a :: h) :
    s.dropAction = { s with host := h } := by
  simp only [State.dropAction, hhost]

theorem State.rxAnswer_of_reads_cons {a : RxResult} (hreads : s.reads = a :: r) (n : Nat) :
    s.rxAnswer n = clipRead n a := by
  simp only [State.rxAnswer, State.nextRead, hreads]

theorem State.rxRead_of_reads_cons {a : RxResult} (hreads : s.reads = a :: r) (n : Nat) :
    s.rxRead n = { s with reads := r, trace := s.trace ++ [.rxRead n (clipRead n a)] } := by
  rw [State.rxRead_eq, State.dropRead_drawn, State.rxAnswer_of_reads_cons hreads, hreads]
  rfl

theorem State.txAnswer_of_writes_cons {a : TxResult} (hwrites : s.writes = a :: w) (l : List Byte) :
    s.txAnswer l = clipWrite l.length a := by
  simp only [State.txAnswer, State.nextWrite, hwrites]

theorem State.txWrite_of_writes_cons {a : TxResult} (hwrites : s.writes = a :: w) (l : List Byte) :
    s.txWrite l = { s with writes := w, trace := s.trace ++ [.txWrite l (clipWrite l.length a)] } := by
  rw [State.txWrite_eq, State.dropWrite_drawn, State.txAnswer_of_writes_cons hwrites, hwrites]
  rfl

/-! ## The four steps -/

/-- `HANDSHAKE` in `START` (42_handshake_fsm.md R83). -/
theorem step_handshake_of_start (hs : s.hsState = .start) (hhost : s.host = .command (encode .handshake) :: h) :
    step s = .next { s with host := h, hsState := .flushPre, lastErr := .none } := by
  rw [step_of_command (nextAction_of_host_cons hhost), issue_of_decode (decode_encode .handshake),
    exec_handshake_of_start (by simpa using hs), State.dropAction_of_host_cons hhost]
  rfl

/-- A silent line and a probe that goes out (42_handshake_fsm.md R84). -/
theorem step_flushPre_of_timeout_ok (hs : s.hsState = .flushPre) (hhost : s.host = .idle :: h)
    (hreads : s.reads = .timeout :: r) (hwrites : s.writes = .ok :: w) :
    step s = .next { s with
      host := h, reads := r, writes := w, txFrame := neutral20, txLen := .extended, hsState := .probed
      trace := s.trace ++ [.rxRead Config.flushReadMax .timeout, .txWrite (frameBytes neutral20) .ok] } := by
  have hpending : s.dropAction.reads = .timeout :: r := by simpa using hreads
  have hanswer : s.dropAction.rxAnswer Config.flushReadMax = .timeout := State.rxAnswer_of_reads_cons hpending _
  have hloaded : (loadProbe (s.dropAction.rxRead Config.flushReadMax)).writes = .ok :: w := by
    simpa [loadProbe] using hwrites
  rw [step_of_idle_flushPre (nextAction_of_host_cons hhost) hs, stepFlushPre_of_silent (.inl hanswer),
    sendProbe_of_ok (State.txAnswer_of_writes_cons hloaded _), probeWritten, State.txWrite_of_writes_cons hloaded,
    State.rxRead_of_reads_cons hpending, State.dropAction_of_host_cons hhost]
  simp [loadProbe, State.putFrame, State.enter, clipRead, clipWrite]

/-- A response to the probe (42_handshake_fsm.md R85). -/
theorem step_probed_of_bytes {l : List Byte} (hl : l.length ≤ 4) (hs : s.hsState = .probed)
    (hhost : s.host = .idle :: h) (hreads : s.reads = .bytes l :: r) :
    step s = .next { s with
      host := h, reads := r, rxBuf := rxBufOf l, rxLen := rxLenOf l, hsVerdict := classify l, hsState := .flushPost
      trace := s.trace ++ [.rxRead 4 (.bytes l)] } := by
  have hclip : clipRead Config.rxMax (.bytes l) = .bytes l := clipRead_of_length_le 4 l hl
  have hpending : s.dropAction.reads = .bytes l :: r := by simpa using hreads
  have hanswer : s.dropAction.rxAnswer Config.rxMax = .bytes l :=
    (State.rxAnswer_of_reads_cons hpending _).trans hclip
  rw [step_of_idle_probed (nextAction_of_host_cons hhost) hs, stepProbed_of_bytes hanswer,
    State.rxRead_of_reads_cons hpending, hclip, State.dropAction_of_host_cons hhost]
  rfl

/-- A silent line after the response (42_handshake_fsm.md R87). -/
theorem step_flushPost_of_timeout (hs : s.hsState = .flushPost) (hhost : s.host = .idle :: h)
    (hreads : s.reads = .timeout :: r) :
    step s = .next { s with
      host := h, reads := r, commMode := s.hsVerdict, hsState := terminalOf s.hsVerdict
      lastErr := verdictErr s.hsVerdict
      trace := s.trace ++ [.rxRead Config.flushReadMax .timeout] } := by
  have hpending : s.dropAction.reads = .timeout :: r := by simpa using hreads
  have hanswer : s.dropAction.rxAnswer Config.flushReadMax = .timeout := State.rxAnswer_of_reads_cons hpending _
  rw [step_of_idle_flushPost (nextAction_of_host_cons hhost) hs, stepFlushPost_of_silent (.inl hanswer),
    State.rxRead_of_reads_cons hpending, State.dropAction_of_host_cons hhost]
  rfl

end

/-- Settles O41, step by step: `HANDSHAKE`, the first flush and the probe, the response, the second flush. -/
theorem handshakeResolvesTheDialect : Obligations.HandshakeResolvesTheDialect := by
  intro s l h r w hs hl hhost hreads hwrites
  have hstart := step_handshake_of_start hs hhost
  have hprobe := step_flushPre_of_timeout_ok
    (s := { s with host := .idle :: .idle :: .idle :: h, hsState := .flushPre, lastErr := .none })
    rfl rfl hreads hwrites
  have hresponse := (run_succ_of_step 2 hprobe).trans (run_succ_of_step 1 (step_probed_of_bytes hl rfl rfl rfl))
  have hsettled := hresponse.trans (run_succ_of_step 0 (step_flushPost_of_timeout rfl rfl rfl))
  refine ⟨_, (run_succ_of_step 3 hstart).trans hsettled, rfl, rfl, ?state, ?err, rfl, rfl, Nat.min_eq_left hl, rfl,
    rfl, rfl, rfl, rfl, rfl, rfl, rfl, rfl, rfl, rfl, rfl, ?trace⟩
  case state => rfl
  case err =>
    change verdictErr (classify l) = _
    cases classify l <;> rfl
  case trace => simp

end Sys2Proof.Machine
end

section
/-! The two response decoders and their commands (43_update_haptic.md R92 to R94, R99, R100). -/

namespace Sys2Proof.Machine

/-- The rescale keeps every byte exact: the largest is `0xFF * 257 = 0xFFFF` (43_update_haptic.md R92). -/
theorem rescale_toNat (v : Byte) : (rescale v).toNat = v.toNat * 257 :=
  Nat.mod_eq_of_lt (by omega)

/-! ## The haptic decoder -/

/-- Without byte 2 there is no rumble command (43_update_haptic.md R93). -/
theorem hapticDecode_of_length_lt {l : List Byte} (h : l.length < 3) : hapticDecode l = .none := by
  match l, h with
  | [], _ => rfl
  | [_], _ => rfl
  | [_, _], _ => rfl

/-- From three bytes on, bytes 1 and 2 decide (43_update_haptic.md R93). -/
theorem hapticDecode_cons (b0 small large : Byte) (l : List Byte) :
    hapticDecode (b0 :: small :: large :: l) =
      if small = 0#8 ∧ large = 0#8 then .stop else .set (rescale large) (rescale small) 500#16 := rfl

/-- Settles O49: by the length, then by the two intensities. -/
theorem hapticDecoderReadsBytesOneAndTwo : Obligations.HapticDecoderReadsBytesOneAndTwo := by
  refine ⟨rescale_toNat, fun l => hapticDecode_of_length_lt, fun b0 l => ?stop, fun b0 small large l h => ?set⟩
  case stop => rw [hapticDecode_cons, if_pos ⟨rfl, rfl⟩]
  case set =>
    refine ⟨rescale large, rescale small, ?_, rescale_toNat large, rescale_toNat small⟩
    rw [hapticDecode_cons, if_neg (not_and_or.mpr h)]

/-- The first `k ≤ 4` of four lanes reach byte 2 from `k = 3` on; lane 3 never counts (43_update_haptic.md R99). -/
theorem hapticDecode_take {k : Nat} (hk : k ≤ 4) (r0 r1 r2 r3 : Byte) :
    hapticDecode ([r0, r1, r2, r3].take k) =
      if k < 3 then .none else if r1 = 0#8 ∧ r2 = 0#8 then .stop else .set (rescale r2) (rescale r1) 500#16 := by
  by_cases hshort : k < 3
  · rw [if_pos hshort]
    exact hapticDecode_of_length_lt (lt_of_le_of_lt (List.length_take_le k _) hshort)
  · rw [if_neg hshort]
    obtain rfl | rfl : k = 3 ∨ k = 4 := by omega
    · exact hapticDecode_cons r0 r1 r2 []
    · exact hapticDecode_cons r0 r1 r2 [r3]

/-- Settles O50: a legal `vlen` takes the completing branch, and the decoder sees its lanes. -/
theorem hapticCommandDecodesItsLanes : Obligations.HapticCommandDecodesItsLanes := by
  refine ⟨fun k r0 r1 r2 r3 s hs => ⟨fun hk => ?legal, fun hk => whenAccepted_ite_of_pos hs hk⟩,
    fun c hop => ?encoding⟩
  case legal =>
    calc exec (.haptic k r0 r1 r2 r3) s
      _ = complete (s.putRumble (hapticDecode ([r0, r1, r2, r3].take k.toNat))) :=
        whenAccepted_ite_of_neg hs (Nat.not_lt.mpr hk)
      _ = _ := by
        rw [hapticDecode_take hk]
        rfl
  case encoding => exact decode_of_op_haptic (congrArg BitVec.toNat hop)

/-! ## The acknowledgement decoder -/

theorem ackFailed_cons (b : Byte) (l : List Byte) : ackFailed (b :: l) = decide (b = Config.minimalErrChar) := rfl

/-- Lane 0 is a byte of the response as soon as there is one (43_update_haptic.md R94, R100). -/
theorem ackFailed_take_eq_true_iff (k : Nat) (r0 : Byte) :
    ackFailed ([r0].take k) = true ↔ 1 ≤ k ∧ r0 = Config.minimalErrChar := by
  cases k with
  | zero => simp [ackFailed]
  | succ k => simp [ackFailed_cons]

/-- Settles O51: a legal `vlen` takes the completing branch, and the flag is its condition's. -/
theorem ackDecoderComparesByteZero : Obligations.AckDecoderComparesByteZero := by
  refine ⟨⟨rfl, ackFailed_cons⟩, fun k r0 s hs => ⟨fun hk => ?legal, fun hk => whenAccepted_ite_of_pos hs hk⟩,
    fun c hop => ?encoding⟩
  case legal =>
    calc exec (.ackdec k r0) s
      _ = complete (s.putRes (flagWord (ackFailed ([r0].take k.toNat)))) :=
        whenAccepted_ite_of_neg hs (Nat.not_lt.mpr hk)
      _ = _ := by
        rw [flagWord_eq_ite (ackFailed_take_eq_true_iff k.toNat r0)]
        rfl
  case encoding => exact decode_of_op_ackdec (congrArg BitVec.toNat hop)

end Sys2Proof.Machine
end

section
/-! The update transaction (43_update_haptic.md R96 to R98, R101): when there is one, what it writes and reads, and what
its dialect makes of the response. -/

namespace Sys2Proof.Machine

/-- Past the common checks, a state other than `START` is a negotiated one (60_exceptions.md R107). -/
theorem negotiated_of_accepts {s : State} (h : s.Accepts) (hstart : s.hsState ≠ .start) :
    s.hsState.negotiated = true := by
  rcases h with h | h | h | h
  · exact absurd h hstart
  all_goals (rw [h]; rfl)

/-- Outside the negotiated states `UPDATE` leaves a code and nothing else (43_update_haptic.md R96). -/
theorem exec_update_of_not_negotiated {s t : State} (h : s.hsState.negotiated = false)
    (hexec : exec .update s = .next t) : ∃ e, t = s.setErr e := by
  rcases execUpdate_cases hexec with herr | ⟨haccepts, hstart, -⟩
  · exact herr
  · exact absurd ((negotiated_of_accepts haccepts hstart).symm.trans h) nofun

/-! ## Interactions -/

theorem updatePacket_length (n : FrameLen) (s : State) : (updatePacket n s).length = n.toNat := by
  cases n <;> rfl

/-- An exchange is one write and one read, whatever the write answered (43_update_haptic.md R98; 20_memory.md R45). -/
theorem exchange_trace (n : FrameLen) (s : State) :
    (exchange n s).trace =
      s.trace ++ [.txWrite (updatePacket n s) (updateWritten n s), .rxRead 4 (updateAnswer n s)] := by
  simp [exchange, afterWrite, buildFor, updateWritten, updateAnswer, Config.rxMax]

theorem updateMinimal_trace (s : State) : (updateMinimal s).trace = (exchange .minimal s).trace := rfl

theorem updateExtended_rumbleCmd (s : State) :
    (updateExtended s).rumbleCmd = hapticDecode (updateBytes .extended s) := by
  simp [updateExtended]

/-- The decoded command's calls follow the exchange (43_update_haptic.md R95). -/
theorem updateExtended_trace (s : State) :
    (updateExtended s).trace = (exchange .extended s).trace ++ rumbleCalls (updateExtended s).rumbleCmd := by
  rw [updateExtended_rumbleCmd]
  simp [updateExtended, emitRumble_eq]

/-- `UPDATE` leaves the session where it was (43_update_haptic.md R101 item 5). -/
theorem exec_update_sameSession {s t : State} (h : exec .update s = .next t) : SameSession s t := by
  obtain ⟨hmode, -, -, -, -, hconfig⟩ := exec_frame h
  have hstate : t.hsState = s.hsState := (exec_hsState h).resolve_right fun ⟨h, _⟩ => nomatch h
  exact ⟨hstate, hmode, hconfig.resolve_right fun ⟨_, _, _, h⟩ => nomatch h⟩

/-- Settles O52: the session by what no update writes, the interactions by the dialect. -/
theorem updateTrafficIsFixedByTheDialect : Obligations.UpdateTrafficIsFixedByTheDialect := by
  intro s t h
  obtain ⟨hstate, hmode, htm, hnorm⟩ := exec_update_sameSession h
  refine ⟨hstate, hmode, htm, hnorm, ?silent, fun hneg hminimal => ?minimal, fun hneg hextended => ?extended⟩
  case silent =>
    intro hsilent
    cases hneg : s.hsState.negotiated with
    | false =>
      obtain ⟨e, rfl⟩ := exec_update_of_not_negotiated hneg h
      exact State.setErr_trace e s
    | true =>
      have hundetermined := hsilent.resolve_left (by simp [hneg])
      cases (exec_update_of_undetermined hneg hundetermined).symm.trans h
      exact State.setErr_trace .none s
  case minimal =>
    cases (exec_update_of_minimal hneg hminimal).symm.trans h
    exact ⟨_, _, _, updatePacket_length .minimal s, (updateMinimal_trace s).trans (exchange_trace .minimal s)⟩
  case extended =>
    cases (exec_update_of_extended hneg hextended).symm.trans h
    have htrace := updateExtended_trace s
    rw [exchange_trace] at htrace
    exact ⟨_, _, _, updatePacket_length .extended s, htrace⟩

/-! ## The whole effect -/

/-- The response register holds the length of the response (10_state.md R29). -/
theorem rxLenOf_updateBytes (n : FrameLen) (s : State) :
    (rxLenOf (updateBytes n s)).val = (updateBytes n s).length :=
  Nat.min_eq_left (updateBytes_length n s)

theorem updateExtended_eq (s : State) :
    updateExtended s = { exchange .extended s with
      rumbleCmd := hapticDecode (updateBytes .extended s)
      trace := (exchange .extended s).trace ++ rumbleCalls (hapticDecode (updateBytes .extended s))
      lastErr := updateOutcome .extended s } := by
  rw [updateExtended, emitRumble_eq]
  rfl

/-- Settles O48: the checks in their order, then the transaction of each dialect. -/
theorem updateBuildsWritesReadsAndDecodes : Obligations.UpdateBuildsWritesReadsAndDecodes := by
  refine ⟨fun s => ⟨exec_of_aborted, exec_of_busy, exec_update_of_start, exec_update_of_undetermined, ?dialects⟩,
    fun c hop => ?encoding⟩
  case dialects =>
    intro hneg hdialect
    by_cases hmode : s.commMode = .minimal
    · rw [if_pos hmode, if_pos hmode]
      refine ⟨_, rxLenOf_updateBytes .minimal s, fun _ => exec_update_of_minimal hneg hmode, fun h => ?_⟩
      exact absurd (hmode.symm.trans h) nofun
    · rw [if_neg hmode, if_neg hmode]
      refine ⟨_, rxLenOf_updateBytes .extended s, fun h => absurd h hmode, fun hextended => ?_⟩
      rw [exec_update_of_extended hneg hextended, updateExtended_eq]
      rfl
  case encoding =>
    obtain ⟨-, -, -, -, -, -, -, -, -, -, -, -, -, -, -, hupdate, -⟩ := commandsTakeTheOperandsOfTheirRow c
    exact hupdate hop

end Sys2Proof.Machine
end

section
/-! Log-only mode (43_update_haptic.md R97; 60_exceptions.md R103, R119): what every step but a reset keeps, a run of
steps keeps. -/

namespace Sys2Proof.Machine

/-- What every step without a reset keeps, a run over a host list without one keeps. -/
theorem run_keeps_of_step_keeps {P : State → Prop}
    (hstep : ∀ u v : State, P u → u.nextAction ≠ .reset → step u = .next v → P v) (k : Nat) :
    ∀ s t : State, P s → k ≤ s.host.length → (∀ a ∈ s.host.take k, a ≠ .reset) →
      Sys2Proof.core.run k s = .next t → P t := by
  induction k with
  | zero =>
    rintro s t hs - - ⟨⟩
    exact hs
  | succ k ih =>
    intro s t hs hlen hreset hrun
    obtain ⟨u, hu⟩ := everyStepAnswersANextState s
    rw [run_succ_of_step k hu] at hrun
    obtain ⟨a, rest, hhost⟩ : ∃ a rest, s.host = a :: rest := List.exists_cons_of_length_pos (by omega)
    have hrest : u.host = rest := by rw [step_host hu, hhost, List.tail_cons]
    rw [hhost, List.take_succ_cons, List.forall_mem_cons] at hreset
    obtain ⟨ha, hlater⟩ := hreset
    have hlater_len : k ≤ rest.length := by simpa [hhost] using hlen
    refine ih u t (hstep s u hs ?_ hu) ?_ ?_ hrun
    · rwa [nextAction_of_host_cons hhost]
    · rwa [hrest]
    · rwa [hrest]

/-- `u` is in log-only mode, and nothing has been transmitted, read or acknowledged since `s`. -/
structure LogOnlySince (s u : State) : Prop where
  unknown : u.hsState = .unknown
  mode : u.commMode = .undetermined
  trace : u.trace = s.trace
  rxBuf : u.rxBuf = s.rxBuf
  rxLen : u.rxLen = s.rxLen
  ackFail : u.ackFail = s.ackFail

section
variable {s u v : State}

/-- In log-only mode `UPDATE` has nothing to send (43_update_haptic.md R97), and no other command does. -/
theorem LogOnlySince.exec {i : Instr} (h : LogOnlySince s u) (hexec : exec i u = .next v) : LogOnlySince s v := by
  by_cases hi : i = .update
  · subst hi
    cases (exec_update_of_undetermined (by rw [h.unknown]; rfl) h.mode).symm.trans hexec
    exact { h with }
  · obtain ⟨htrace, -, -, hbuf, hlen, hack⟩ := exec_quiet hexec hi
    obtain ⟨hmode, -⟩ := exec_frame hexec
    have hstate : v.hsState = u.hsState := (exec_hsState hexec).resolve_right (by simp [h.unknown])
    exact ⟨hstate.trans h.unknown, hmode.trans h.mode, htrace.trans h.trace, hbuf.trans h.rxBuf, hlen.trans h.rxLen,
      hack.trans h.ackFail⟩

theorem LogOnlySince.issue {c : Command} (h : LogOnlySince s u) (hissue : issue c u = .next v) :
    LogOnlySince s v := by
  rcases issue_cases hissue with ⟨i, -, hexec⟩ | ⟨-, -, hres⟩
  · exact h.exec hexec
  · obtain ⟨e, rfl⟩ := reservedOp_cases hres
    exact { h with }

theorem LogOnlySince.dropAction (h : LogOnlySince s u) : LogOnlySince s u.dropAction := by
  obtain ⟨hstate, hmode, htrace, hbuf, hlen, hack⟩ := h
  constructor <;> simpa

/-- Without a reset no step leaves log-only mode, and no step in it makes an interaction (60_exceptions.md R119). -/
theorem LogOnlySince.step (h : LogOnlySince s u) (hreset : u.nextAction ≠ .reset) (hstep : step u = .next v) :
    LogOnlySince s v := by
  have htaken := h.dropAction
  rcases step_cases hstep with ⟨c, -, hissue⟩ | ⟨p, -, rfl⟩ | ⟨ha, -⟩ | ⟨-, rfl⟩
  · exact htaken.issue hissue
  · exact { htaken with }
  · exact absurd ha hreset
  · rwa [autonomous_of_not_busy (by rw [htaken.unknown]; rfl)]

end

/-- Settles O53: log-only mode keeps itself and its registers step by step, so over the run. -/
theorem logOnlyModeNeverTransmits : Obligations.LogOnlyModeNeverTransmits := by
  intro k s t hunknown hmode hlen hreset hrun
  have hstart : LogOnlySince s s := ⟨hunknown, hmode, rfl, rfl, rfl, rfl⟩
  have hend : LogOnlySince s t :=
    run_keeps_of_step_keeps (fun _ _ => LogOnlySince.step) k s t hstart hlen hreset hrun
  exact ⟨hend.trace, hend.rxBuf, hend.rxLen, hend.ackFail⟩

end Sys2Proof.Machine
end

section
/-! The record of interactions is never read (log 10; 43_update_haptic.md R95): every operation commutes with putting
earlier interactions before it. -/

namespace Sys2Proof.Machine

/-- The state with more interactions before those on record. -/
def State.withPast (past : List Interaction) (s : State) : State := { s with trace := past ++ s.trace }

section
variable (past : List Interaction) (s : State)

/-! ## The transport and rumble calls -/

/-- A record is added at the other end. -/
theorem State.record_withPast (e : Interaction) : (s.withPast past).record e = (s.record e).withPast past := by
  simp [State.record, State.withPast]

theorem State.dropRead_withPast : (s.withPast past).dropRead = s.dropRead.withPast past := by
  rw [State.dropRead_eq, State.dropRead_eq s, State.dropRead_drawn, State.dropRead_drawn]
  rfl

theorem State.dropWrite_withPast : (s.withPast past).dropWrite = s.dropWrite.withPast past := by
  rw [State.dropWrite_eq, State.dropWrite_eq s, State.dropWrite_drawn, State.dropWrite_drawn]
  rfl

theorem State.dropAction_withPast : (s.withPast past).dropAction = s.dropAction.withPast past := by
  rw [State.dropAction_eq, State.dropAction_eq s, State.dropAction_drawn, State.dropAction_drawn]
  rfl

theorem State.rxAnswer_withPast (n : Nat) : (s.withPast past).rxAnswer n = s.rxAnswer n := rfl

theorem State.txAnswer_withPast (l : List Byte) : (s.withPast past).txAnswer l = s.txAnswer l := rfl

theorem State.rxRead_withPast (n : Nat) : (s.withPast past).rxRead n = (s.rxRead n).withPast past := by
  rw [State.rxRead, State.dropRead_withPast, State.record_withPast, State.rxAnswer_withPast]
  rfl

theorem State.txWrite_withPast (l : List Byte) : (s.withPast past).txWrite l = (s.txWrite l).withPast past := by
  rw [State.txWrite, State.dropWrite_withPast, State.record_withPast, State.txAnswer_withPast]
  rfl

theorem State.emitRumble_withPast (c : RumbleCmd) :
    (s.withPast past).emitRumble c = (s.emitRumble c).withPast past := by
  cases c with
  | none => rfl
  | stop => exact State.record_withPast past s _
  | set low high durMs => exact State.record_withPast past s _

/-! ## The handshake FSM -/

theorem loadProbe_withPast : loadProbe (s.withPast past) = (loadProbe s).withPast past := rfl

theorem sendProbe_withPast : sendProbe (s.withPast past) = (sendProbe s).withPast past := by
  have hpolicy : (s.withPast past).probePolicy = s.probePolicy := rfl
  simp only [sendProbe, loadProbe_withPast, State.txAnswer_withPast, State.txWrite_withPast, hpolicy]
  split
  · rfl
  · split <;> rfl

theorem stepFlushPre_withPast : stepFlushPre (s.withPast past) = (stepFlushPre s).withPast past := by
  simp only [stepFlushPre, State.rxAnswer_withPast, State.rxRead_withPast, sendProbe_withPast]
  split <;> rfl

theorem stepProbed_withPast : stepProbed (s.withPast past) = (stepProbed s).withPast past := by
  have hpolicy : (s.withPast past).probePolicy = s.probePolicy := rfl
  simp only [stepProbed, State.rxAnswer_withPast, State.rxRead_withPast, hpolicy]
  split
  · split <;> rfl
  · rfl
  · rfl

theorem stepFlushPost_withPast : stepFlushPost (s.withPast past) = (stepFlushPost s).withPast past := by
  simp only [stepFlushPost, State.rxAnswer_withPast, State.rxRead_withPast]
  split <;> rfl

theorem autonomous_withPast : autonomous (s.withPast past) = (autonomous s).withPast past := by
  have hstate : (s.withPast past).hsState = s.hsState := rfl
  simp only [autonomous, hstate]
  cases s.hsState with
  | flushPre => exact stepFlushPre_withPast past s
  | probed => exact stepProbed_withPast past s
  | flushPost => exact stepFlushPost_withPast past s
  | start | minimal | extended | unknown | aborted => rfl

/-! ## The update transaction -/

theorem afterWrite_withPast (n : FrameLen) : afterWrite n (s.withPast past) = (afterWrite n s).withPast past :=
  State.txWrite_withPast past (buildFor n s) (updatePacket n s)

theorem updateAnswer_withPast (n : FrameLen) : updateAnswer n (s.withPast past) = updateAnswer n s := by
  rw [updateAnswer, afterWrite_withPast]
  rfl

theorem updateBytes_withPast (n : FrameLen) : updateBytes n (s.withPast past) = updateBytes n s := by
  rw [updateBytes, updateAnswer_withPast]
  rfl

theorem updateOutcome_withPast (n : FrameLen) : updateOutcome n (s.withPast past) = updateOutcome n s := by
  rw [updateOutcome, updateAnswer_withPast]
  rfl

theorem exchange_withPast (n : FrameLen) : exchange n (s.withPast past) = (exchange n s).withPast past := by
  rw [exchange, afterWrite_withPast, State.rxRead_withPast, updateBytes_withPast]
  rfl

theorem updateMinimal_withPast : updateMinimal (s.withPast past) = (updateMinimal s).withPast past := by
  rw [updateMinimal, exchange_withPast, updateBytes_withPast, updateOutcome_withPast]
  rfl

theorem updateExtended_withPast : updateExtended (s.withPast past) = (updateExtended s).withPast past := by
  rw [updateExtended, exchange_withPast, updateBytes_withPast, updateOutcome_withPast]
  exact congrArg _ (State.emitRumble_withPast past ((exchange .extended s).putRumble _) _)

end

/-! ## Results -/

/-- The second result is a next state as the first is, with the same interactions before its own. -/
def SameAfter (past : List Interaction) (r r' : StepResult) : Prop :=
  ∃ t, r = .next t ∧ r' = .next (t.withPast past)

theorem sameAfter_next (past : List Interaction) (t : State) : SameAfter past (.next t) (.next (t.withPast past)) :=
  ⟨t, rfl, rfl⟩

theorem sameAfter_refuse (past : List Interaction) (e : ErrCode) (t : State) :
    SameAfter past (refuse e t) (refuse e (t.withPast past)) := sameAfter_next past (t.setErr e)

theorem sameAfter_complete (past : List Interaction) (t : State) :
    SameAfter past (complete t) (complete (t.withPast past)) := sameAfter_next past (t.setErr .none)

theorem sameAfter_ite {past : List Interaction} {c : Prop} [Decidable c] {x y x' y' : StepResult}
    (hx : SameAfter past x x') (hy : SameAfter past y y') :
    SameAfter past (if c then x else y) (if c then x' else y') := by
  split
  · exact hx
  · exact hy

/-- The common checks look at `hs_state` alone (60_exceptions.md R107). -/
theorem sameAfter_whenAccepted {past : List Interaction} {s : State} {body body' : StepResult}
    (h : SameAfter past body body') :
    SameAfter past (whenAccepted s body) (whenAccepted (s.withPast past) body') :=
  sameAfter_ite (sameAfter_refuse past _ s) (sameAfter_ite (sameAfter_refuse past _ s) h)

theorem sameAfter_reservedOp (past : List Interaction) (s : State) :
    SameAfter past (reservedOp s) (reservedOp (s.withPast past)) :=
  sameAfter_ite (sameAfter_refuse past _ s) (sameAfter_refuse past _ s)

theorem sameAfter_execConfig (past : List Interaction) (m : BitVec 2) (n : Bool) (s : State) :
    SameAfter past (execConfig m n s) (execConfig m n (s.withPast past)) := by
  refine sameAfter_whenAccepted (sameAfter_ite (sameAfter_refuse past _ s) ?_)
  cases TriggerMode.ofCode m with
  | none => exact sameAfter_refuse past _ s
  | some tm => exact sameAfter_complete past (s.putConfig tm n)

theorem sameAfter_execUpdate (past : List Interaction) (s : State) :
    SameAfter past (execUpdate s) (execUpdate (s.withPast past)) := by
  refine sameAfter_whenAccepted (sameAfter_ite (sameAfter_refuse past _ s) ?_)
  rw [updateMinimal_withPast, updateExtended_withPast]
  have hmode : (s.withPast past).commMode = s.commMode := rfl
  rw [hmode]
  cases s.commMode with
  | undetermined => exact sameAfter_complete past s
  | minimal => exact sameAfter_next past (updateMinimal s)
  | extended => exact sameAfter_next past (updateExtended s)

theorem sameAfter_exec (past : List Interaction) (i : Instr) (s : State) :
    SameAfter past (exec i s) (exec i (s.withPast past)) := by
  cases i with
  | config m n => exact sameAfter_execConfig past m n s
  | update => exact sameAfter_execUpdate past s
  | col8 | col16 => exact sameAfter_whenAccepted (sameAfter_ite (sameAfter_complete past _) (sameAfter_refuse past _ s))
  | handshake | haptic | ackdec =>
    exact sameAfter_whenAccepted (sameAfter_ite (sameAfter_refuse past _ s) (sameAfter_complete past _))
  | bta8 | bta16 | atb8 | atb16 | scale | hapos | haneg | norm | build20 | build7 | probe =>
    exact sameAfter_whenAccepted (sameAfter_complete past _)

theorem sameAfter_perform (past : List Interaction) (a : HostAction) (s : State) :
    SameAfter past (perform a s) (perform a (s.withPast past)) := by
  cases a with
  | command c =>
    simp only [perform, issue]
    split
    · exact sameAfter_exec past _ s
    · exact sameAfter_reservedOp past s
  | snapshot p => exact sameAfter_next past (s.drive p)
  | reset => exact sameAfter_next past s.sessionReset
  | idle =>
    refine ⟨autonomous s, rfl, ?_⟩
    rw [perform, autonomous_withPast]

/-- Settles O47: taking the action up does not read the record, and neither does carrying it out. -/
theorem theRecordIsNeverRead : Obligations.TheRecordIsNeverRead := by
  intro s t past h
  obtain ⟨u, hu, hu'⟩ := sameAfter_perform past s.nextAction s.dropAction
  obtain rfl : t = u := Host.Outcome.next.inj (h.symm.trans hu)
  calc step (s.withPast past)
    _ = perform s.nextAction (s.dropAction.withPast past) := by rw [← State.dropAction_withPast]; rfl
    _ = .next (t.withPast past) := hu'

end Sys2Proof.Machine
end

section
/-! The common checks of every command (60_exceptions.md R107), and the codes each command's own rule leaves
(60_exceptions.md R102, R104): a refusal writes `last_err` alone. -/

namespace Sys2Proof.Machine

/-! ## What a command's own rule can leave -/

/-- The codes with which a command's own rule refuses it, by the column of 60_exceptions.md R102. -/
inductive OwnRefusal : Instr → ErrCode → Prop
  | configLocked (m : BitVec 2) (n : Bool) : OwnRefusal (.config m n) .configLocked
  | invalidConfig (m : BitVec 2) (n : Bool) : OwnRefusal (.config m n) .invalidConfig
  | col8Length (k : BitVec 4) (v : Lanes Byte) : OwnRefusal (.col8 k v) .invalidInputLength
  | col16Length (k : BitVec 4) (v : Lanes Word) : OwnRefusal (.col16 k v) .invalidInputLength
  | hapticLength (k : BitVec 4) (r0 r1 r2 r3 : Byte) : OwnRefusal (.haptic k r0 r1 r2 r3) .invalidInputLength
  | ackdecLength (k : BitVec 4) (r0 : Byte) : OwnRefusal (.ackdec k r0) .invalidInputLength
  | alreadyNegotiated : OwnRefusal .handshake .alreadyNegotiated
  | notNegotiated : OwnRefusal .update .notNegotiated

/-- Where the result of `i` in `s` is a next state, the command completed, or reported a transport error as `UPDATE`
does, or its own rule refused it and wrote `last_err` alone (60_exceptions.md R104). -/
def OwnOutcome (i : Instr) (s : State) (r : StepResult) : Prop :=
  ∀ t, r = .next t →
    t.lastErr = .none ∨ (i = .update ∧ (t.lastErr = .txIo ∨ t.lastErr = .rxIo)) ∨
      ∃ e, OwnRefusal i e ∧ t = s.setErr e

section
variable {i : Instr} {s : State}

theorem ownOutcome_complete (u : State) : OwnOutcome i s (complete u) := by
  rintro _ ⟨⟩
  exact .inl rfl

theorem ownOutcome_refuse {e : ErrCode} (h : OwnRefusal i e) : OwnOutcome i s (refuse e s) := by
  rintro _ ⟨⟩
  exact .inr (.inr ⟨e, h, rfl⟩)

theorem ownOutcome_ite {c : Prop} [Decidable c] {x y : StepResult} (hx : OwnOutcome i s x) (hy : OwnOutcome i s y) :
    OwnOutcome i s (if c then x else y) := by
  split
  · exact hx
  · exact hy

theorem ownOutcome_whenAccepted {body : StepResult} (h : s.Accepts) (hbody : OwnOutcome i s body) :
    OwnOutcome i s (whenAccepted s body) := by
  rwa [whenAccepted_of_accepts h]

theorem ownOutcome_execConfig (h : s.Accepts) (m : BitVec 2) (n : Bool) :
    OwnOutcome (.config m n) s (execConfig m n s) := by
  refine ownOutcome_whenAccepted h (ownOutcome_ite (ownOutcome_refuse (.configLocked m n)) ?_)
  cases TriggerMode.ofCode m with
  | none => exact ownOutcome_refuse (.invalidConfig m n)
  | some tm => exact ownOutcome_complete _

/-- A transaction leaves what the transport answered (43_update_haptic.md R98). -/
theorem ownOutcome_execUpdate (h : s.Accepts) : OwnOutcome .update s (execUpdate s) := by
  refine ownOutcome_whenAccepted h (ownOutcome_ite (ownOutcome_refuse .notNegotiated) ?_)
  cases s.commMode with
  | undetermined => exact ownOutcome_complete s
  | minimal | extended =>
    rintro _ ⟨⟩
    exact (updateErr_cases _ _).imp_right fun hreported => .inl ⟨rfl, hreported⟩

/-- All that an instruction can leave where no common check refuses it (60_exceptions.md R102, R104). -/
theorem ownOutcome_exec (h : s.Accepts) (i : Instr) : OwnOutcome i s (exec i s) := by
  cases i with
  | config m n => exact ownOutcome_execConfig h m n
  | update => exact ownOutcome_execUpdate h
  | handshake =>
    exact ownOutcome_whenAccepted h (ownOutcome_ite (ownOutcome_refuse .alreadyNegotiated) (ownOutcome_complete _))
  | col8 k v =>
    exact ownOutcome_whenAccepted h (ownOutcome_ite (ownOutcome_complete _) (ownOutcome_refuse (.col8Length k v)))
  | col16 k v =>
    exact ownOutcome_whenAccepted h (ownOutcome_ite (ownOutcome_complete _) (ownOutcome_refuse (.col16Length k v)))
  | haptic k r0 r1 r2 r3 =>
    exact ownOutcome_whenAccepted h
      (ownOutcome_ite (ownOutcome_refuse (.hapticLength k r0 r1 r2 r3)) (ownOutcome_complete _))
  | ackdec k r0 =>
    exact ownOutcome_whenAccepted h (ownOutcome_ite (ownOutcome_refuse (.ackdecLength k r0)) (ownOutcome_complete _))
  | bta8 | bta16 | atb8 | atb16 | scale | hapos | haneg | norm | build20 | build7 | probe =>
    exact ownOutcome_whenAccepted h (ownOutcome_complete _)

/-- The own rule of a pure command refuses an input length and nothing else (60_exceptions.md R107). -/
theorem OwnRefusal.invalidInputLength_of_pure {e : ErrCode} (h : OwnRefusal i e) (hpure : pureCommand i = true) :
    e = .invalidInputLength := by
  cases h with
  | col8Length | col16Length | hapticLength | ackdecLength => rfl
  | configLocked | invalidConfig | alreadyNegotiated | notNegotiated => exact absurd hpure nofun

/-! ## The common checks -/

/-- In `ABORTED` nothing on the port is looked at, a reserved `op` included (60_exceptions.md R107 item 1). -/
theorem issue_of_aborted (h : s.hsState = .aborted) (c : Command) : issue c s = .next (s.setErr .aborted) := by
  cases hc : decode c with
  | ok i => rw [issue_of_decode hc, exec_of_aborted h]
  | error e => exact (issue_of_decode_error hc s).trans (if_pos h)

end

/-- Settles O11: check by check; past them all, a pure command's own rule has only its input length to refuse. -/
theorem commonChecksComeInOrder : Obligations.CommonChecksComeInOrder := by
  refine ⟨fun c s h => issue_of_aborted h c, fun c s e h hc => ?reserved, fun c s i h hc => ?busy,
    fun i s h hpure => ?pure⟩
  case reserved =>
    rw [issue_of_decode_error hc, reservedOp_of_not_aborted h]
    rfl
  case busy =>
    rw [issue_of_decode hc, exec_of_busy h]
    rfl
  case pure =>
    obtain ⟨t, ht⟩ := answers_exec i s
    refine ⟨t, ht, ?_⟩
    rcases ownOutcome_exec h i t ht with hnone | ⟨rfl, -⟩ | ⟨e, hrefused, rfl⟩
    · exact .inl hnone
    · exact absurd hpure nofun
    · exact .inr (hrefused.invalidInputLength_of_pure hpure)

/-! ## The codes of a command -/

/-- All that an instruction can leave: refused by a common check, or the outcome of its own rule. -/
theorem exec_outcome_cases {i : Instr} {s t : State} (h : exec i s = .next t) :
    t.lastErr = .none ∨ (i = .update ∧ (t.lastErr = .txIo ∨ t.lastErr = .rxIo)) ∨
      ∃ e, (e = .busy ∨ e = .aborted ∨ OwnRefusal i e) ∧ t = s.setErr e := by
  rcases accepts_or_busy_or_aborted s with ha | hb | hc
  · exact (ownOutcome_exec ha i t h).imp_right <| .imp_right fun ⟨e, hown, ht⟩ => ⟨e, .inr (.inr hown), ht⟩
  · cases (exec_of_busy hb).symm.trans h
    exact .inr (.inr ⟨_, .inl rfl, rfl⟩)
  · cases (exec_of_aborted hc).symm.trans h
    exact .inr (.inr ⟨_, .inr (.inl rfl), rfl⟩)

/-- Settles O12: only a completed command and one that reports a transport error write more than `last_err`. -/
theorem refusalsChangeNothingElse : Obligations.RefusalsChangeNothingElse := by
  intro c s t h hnone htx hrx
  rcases issue_cases h with ⟨i, -, hexec⟩ | ⟨-, -, hres⟩
  · rcases exec_outcome_cases hexec with hn | ⟨-, hreported⟩ | ⟨e, -, rfl⟩
    · exact absurd hn hnone
    · exact (hreported.elim htx hrx).elim
    · rfl
  · obtain ⟨e, rfl⟩ := reservedOp_cases hres
    rfl

/-- Settles O14: the codes of the common checks, of `UPDATE`'s reports, and of each own refusal. -/
theorem commandsRaiseOnlyTheirCodes : Obligations.CommandsRaiseOnlyTheirCodes := by
  intro i s t h
  rcases exec_outcome_cases h with hnone | ⟨hupdate, hreported⟩ | ⟨e, hbusy | haborted | hown, rfl⟩
  · exact .inl hnone
  · exact .inr (.inr (.inr (.inr (.inr (.inr ⟨.inr hreported, hupdate⟩)))))
  · exact .inr (.inl hbusy)
  · exact .inr (.inr (.inl haborted))
  · rw [State.setErr_lastErr]
    cases hown <;> simp

end Sys2Proof.Machine
end

section
/-! `last_err` is not sticky (60_exceptions.md R105): no command reads it, and an FSM step writes it only on ending the
handshake. -/

namespace Sys2Proof.Machine

/-! ## What no command reads -/

section
variable (e : ErrCode) (s : State)

theorem State.rxRead_setErr (k : Nat) : (s.setErr e).rxRead k = (s.rxRead k).setErr e := by
  rw [State.rxRead_eq, State.rxRead_eq, State.dropRead_drawn, State.dropRead_drawn]
  rfl

theorem State.txWrite_setErr (l : List Byte) : (s.setErr e).txWrite l = (s.txWrite l).setErr e := by
  rw [State.txWrite_eq, State.txWrite_eq, State.dropWrite_drawn, State.dropWrite_drawn]
  rfl

theorem State.emitRumble_setErr (c : RumbleCmd) : (s.setErr e).emitRumble c = (s.emitRumble c).setErr e := by
  cases c <;> rfl

theorem afterWrite_setErr (n : FrameLen) : afterWrite n (s.setErr e) = (afterWrite n s).setErr e :=
  State.txWrite_setErr e (buildFor n s) (updatePacket n s)

theorem updateAnswer_setErr (n : FrameLen) : updateAnswer n (s.setErr e) = updateAnswer n s := by
  rw [updateAnswer, afterWrite_setErr]
  rfl

theorem updateBytes_setErr (n : FrameLen) : updateBytes n (s.setErr e) = updateBytes n s := by
  rw [updateBytes, updateAnswer_setErr]
  rfl

theorem updateOutcome_setErr (n : FrameLen) : updateOutcome n (s.setErr e) = updateOutcome n s := by
  rw [updateOutcome, updateAnswer_setErr]
  rfl

theorem exchange_setErr (n : FrameLen) : exchange n (s.setErr e) = (exchange n s).setErr e := by
  rw [exchange, afterWrite_setErr, State.rxRead_setErr, updateBytes_setErr]
  rfl

/-- The update overwrites what `last_err` held (60_exceptions.md R105). -/
theorem updateMinimal_setErr : updateMinimal (s.setErr e) = updateMinimal s := by
  rw [updateMinimal, exchange_setErr, updateBytes_setErr, updateOutcome_setErr]
  rfl

theorem updateExtended_setErr : updateExtended (s.setErr e) = updateExtended s := by
  rw [updateExtended, exchange_setErr, updateBytes_setErr, updateOutcome_setErr]
  exact (congrArg (State.setErr _) (State.emitRumble_setErr e ((exchange .extended s).putRumble _) _)).trans rfl

theorem execUpdate_setErr : execUpdate (s.setErr e) = execUpdate s := by
  rw [execUpdate, updateMinimal_setErr, updateExtended_setErr]
  rfl

/-- No instruction reads `last_err`, and each overwrites it (60_exceptions.md R105). -/
theorem exec_setErr (i : Instr) : exec i (s.setErr e) = exec i s := by
  cases i with
  | update => exact execUpdate_setErr e s
  | config | bta8 | bta16 | atb8 | atb16 | scale | hapos | haneg | norm | col8 | col16 | build20 | build7 | probe
  | handshake | haptic | ackdec => rfl

theorem issue_setErr (c : Command) : issue c (s.setErr e) = issue c s := by
  cases hc : decode c with
  | ok i => rw [issue_of_decode hc, issue_of_decode hc, exec_setErr]
  | error x =>
    rw [issue_of_decode_error hc, issue_of_decode_error hc]
    rfl

end

/-! ## What an FSM step writes -/

/-- The second flush ends in a terminal state, whatever the verdict (42_handshake_fsm.md R87). -/
theorem terminalOf_terminal (m : CommMode) : (terminalOf m).terminal = true := by
  cases m <;> rfl

/-- Left alone, the block writes `last_err` only on entering a terminal state (60_exceptions.md R105). -/
theorem autonomous_lastErr (s : State) :
    (autonomous s).lastErr = s.lastErr ∨ (autonomous s).hsState.terminal = true := by
  rcases autonomous_cases s with ⟨-, e⟩ | ⟨-, e⟩ | ⟨-, e⟩ | ⟨-, e⟩ <;> rw [e]
  · rcases stepFlushPre_cases s with e' | e' | e' <;> rw [e']
    · exact .inl (State.rxRead_lastErr _ s)
    · exact .inr rfl
    · rcases sendProbe_cases (s.rxRead Config.flushReadMax) with e'' | e'' | e'' <;> rw [e'']
      · exact .inl (by simp [loadProbe])
      · exact .inr rfl
      · exact .inl (by simp [loadProbe])
  · rcases stepProbed_cases s with e' | ⟨l, m, -, e'⟩ <;> rw [e']
    · exact .inr rfl
    · exact .inl (by simp [takeProbeResponse])
  · rcases stepFlushPost_cases s with e' | e' | e' <;> rw [e']
    · exact .inl (State.rxRead_lastErr _ s)
    · exact .inr rfl
    · exact .inr (terminalOf_terminal _)
  · exact .inl rfl

/-- Settles O13: the value held passes through no command, and an FSM step that changes it has ended the handshake. -/
theorem lastErrIsNotSticky : Obligations.LastErrIsNotSticky := by
  refine ⟨fun c s e => issue_setErr e s c, fun s t ha hstep hchanged => ?_⟩
  obtain rfl := eq_autonomous_of_step ha hstep
  refine (autonomous_lastErr s.dropAction).resolve_left fun hkept => hchanged ?_
  rw [hkept, State.dropAction_lastErr]

end Sys2Proof.Machine
end

section
/-! The fatal error (60_exceptions.md R110, R111): how the block enters `ABORTED`, and how it leaves. -/

namespace Sys2Proof.Machine

/-- The second flush that ends aborts nothing (42_handshake_fsm.md R87). -/
theorem terminalOf_ne_aborted (m : CommMode) : terminalOf m ≠ .aborted := by
  cases m <;> nofun

/-- Left alone, the block enters `ABORTED` after a failed read, or after the failed write of the probe
(42_handshake_fsm.md R84, R85, R87). -/
theorem autonomous_fatal_cases {s : State} (hs : s.hsState ≠ .aborted) (h : (autonomous s).hsState = .aborted) :
    s.hsState.busy = true ∧ ∃ n, autonomous s = (s.rxRead n).fatal .fatalIo ∨
      (s.hsState = .flushPre ∧ autonomous s = (probeWritten (s.rxRead n)).fatal .fatalIo) := by
  rcases autonomous_cases s with ⟨hg, e⟩ | ⟨hg, e⟩ | ⟨hg, e⟩ | ⟨-, e⟩ <;> rw [e] at h ⊢
  · refine ⟨by rw [hg]; rfl, Config.flushReadMax, ?_⟩
    rcases stepFlushPre_cases s with e' | e' | e' <;> rw [e'] at h ⊢
    · exact absurd h (by simp [hg])
    · exact .inl rfl
    · rcases sendProbe_cases (s.rxRead Config.flushReadMax) with e'' | e'' | e'' <;> rw [e''] at h ⊢
      · exact absurd h nofun
      · exact .inr ⟨hg, rfl⟩
      · exact absurd h nofun
  · refine ⟨by rw [hg]; rfl, Config.rxMax, ?_⟩
    rcases stepProbed_cases s with e' | ⟨l, m, -, e'⟩ <;> rw [e'] at h ⊢
    · exact .inl rfl
    · exact absurd h nofun
  · refine ⟨by rw [hg]; rfl, Config.flushReadMax, ?_⟩
    rcases stepFlushPost_cases s with e' | e' | e' <;> rw [e'] at h ⊢
    · exact absurd h (by simp [hg])
    · exact .inl rfl
    · exact absurd h (terminalOf_ne_aborted _)
  · exact absurd h hs

/-- A step that enters `ABORTED` leaves a busy block alone (60_exceptions.md R110). -/
theorem step_enters_aborted {s t : State} (hstep : step s = .next t) (ht : t.hsState = .aborted)
    (hs : s.hsState ≠ .aborted) : s.nextAction = .idle ∧ t = autonomous s.dropAction := by
  rcases step_cases hstep with ⟨c, -, hissue⟩ | ⟨p, -, rfl⟩ | ⟨-, rfl⟩ | hidle
  · rcases issue_hsState hissue with hkept | ⟨-, hflush, -⟩
    · exact absurd (hkept.symm.trans ht) (by simpa using hs)
    · exact absurd (hflush.symm.trans ht) nofun
  · exact absurd ht (by simpa using hs)
  · exact absurd ht nofun
  · exact hidle

/-- Settles O39: the way in by the failed read or write of a busy block, the refusals inside, and the way out. -/
theorem abortedIsEnteredByFatalStepsAndLeftByReset : Obligations.AbortedIsEnteredByFatalStepsAndLeftByReset := by
  refine ⟨fun s t hstep ht hs => ?entered, fun s i h => exec_of_aborted h, fun s t hs hstep ht => ?left⟩
  case entered =>
    obtain ⟨ha, rfl⟩ := step_enters_aborted hstep ht hs
    obtain ⟨hbusy, n, e | ⟨hflush, e⟩⟩ := autonomous_fatal_cases (by simpa using hs) ht
    · rw [State.dropAction_hsState] at hbusy
      simp [ha, hbusy, e, State.fatal]
    · rw [State.dropAction_hsState] at hflush
      simp [ha, hflush, HsState.busy, e, State.fatal, probeWritten, loadProbe]
  case left =>
    by_contra hreset
    obtain ⟨hkept, -⟩ := step_sameSession_of_terminal (by rw [hs]; rfl) hreset hstep
    exact ht (hkept.trans hs)

end Sys2Proof.Machine
end

section
/-! The host's turn: a step takes up one action, and a frame's actions end in at most one `UPDATE` (60_exceptions.md
R114, R115, R118). -/

namespace Sys2Proof.Machine

/-- Settles O6: the step issues the command, which decodes; and a decided action is the front of the list. -/
theorem stepRunsTheDecodedCommand : Obligations.StepRunsTheDecodedCommand :=
  ⟨fun s _ _ ha hc => (step_of_command ha).trans (issue_of_decode hc s.dropAction),
    fun _ _ _ hhost => ⟨nextAction_of_host_cons hhost, State.dropAction_of_host_cons hhost⟩⟩

/-- Draining a list of events keeps the actions of the changes, in order (60_exceptions.md R118 item 1). -/
theorem flatten_map_drainEvent {action : FrameEvent → Option HostAction}
    (hchange : ∀ p, action (.change p) = some (.snapshot p)) (hother : action .other = none)
    (events : List FrameEvent) : (events.map drainEvent).flatten = events.filterMap action := by
  induction events with
  | nil => rfl
  | cons event events ih =>
    cases event with
    | change p => simp [drainEvent, hchange, ih]
    | other => simp [drainEvent, hother, ih]

/-- An `UPDATE` is due in the Extended dialect, and in every dialect after a change (60_exceptions.md R118). -/
theorem updateDue_iff (mode : CommMode) (events : List FrameEvent) :
    updateDue mode events = true ↔ mode = .extended ∨ ∃ p, .change p ∈ events := by
  have hchange : events.any FrameEvent.isChange = true ↔ ∃ p, .change p ∈ events := by
    rw [List.any_eq_true]
    constructor
    · rintro ⟨⟨p⟩ | _, hmem, hevent⟩
      · exact ⟨p, hmem⟩
      · exact absurd hevent nofun
    · rintro ⟨p, hmem⟩
      exact ⟨_, hmem, rfl⟩
  rw [updateDue, Bool.or_eq_true, hchange, beq_iff_eq, or_comm]

theorem frameActions_of_due {mode : CommMode} {events : List FrameEvent} (h : updateDue mode events = true) :
    frameActions mode events = (events.map drainEvent).flatten ++ [.command (encode .update)] := by
  rw [frameActions, if_pos h]

theorem frameActions_of_not_due {mode : CommMode} {events : List FrameEvent} (h : ¬updateDue mode events = true) :
    frameActions mode events = (events.map drainEvent).flatten := by
  rw [frameActions, if_neg h, List.append_nil]

/-- Settles O58: the drained events, then the `UPDATE` exactly where one is due. -/
theorem aFrameHasAtMostOneUpdate : Obligations.AFrameHasAtMostOneUpdate := by
  refine fun mode events => ⟨fun hdue => ?due, fun hmode hquiet => ?quiet⟩
  case due =>
    rw [frameActions_of_due ((updateDue_iff mode events).mpr hdue)]
    exact congrArg (· ++ _) (flatten_map_drainEvent (fun _ => rfl) rfl events)
  case quiet =>
    have hnot : ¬updateDue mode events = true := by
      rw [updateDue_iff]
      exact not_or.mpr ⟨hmode, not_exists.mpr hquiet⟩
    rw [frameActions_of_not_due hnot, List.flatten_eq_nil_iff]
    intro actions hactions
    obtain ⟨⟨p⟩ | _, hmem, rfl⟩ := List.mem_map.mp hactions
    · exact absurd hmem (hquiet p)
    · rfl

end Sys2Proof.Machine
end

section
/-! A flush is not bounded (70_reset_and_hazards.md R129): a byte answered to a flush read leaves either flush running,
so any number of them does. -/

namespace Sys2Proof.Machine

section
variable {s : State} {h : List HostAction} {r : List RxResult}

/-- In both flushes an answer of one byte does nothing but use up the read (42_handshake_fsm.md R84, R87). -/
theorem step_flush_of_byte {b : Byte} (hs : s.hsState = .flushPre ∨ s.hsState = .flushPost)
    (hhost : s.host = .idle :: h) (hreads : s.reads = .bytes [b] :: r) :
    step s = .next { s with
      host := h, reads := r, trace := s.trace ++ [.rxRead Config.flushReadMax (.bytes [b])] } := by
  have hclip : clipRead Config.flushReadMax (.bytes [b]) = .bytes [b] := clipRead_of_length_le _ [b] flushReadMax_pos
  have hpending : s.dropAction.reads = .bytes [b] :: r := by simpa using hreads
  have hanswer : s.dropAction.rxAnswer Config.flushReadMax = .bytes [b] :=
    (State.rxAnswer_of_reads_cons hpending _).trans hclip
  have hread : step s = .next (s.dropAction.rxRead Config.flushReadMax) := by
    rcases hs with hs | hs
    · rw [step_of_idle_flushPre (nextAction_of_host_cons hhost) hs, stepFlushPre_of_bytes hanswer]
    · rw [step_of_idle_flushPost (nextAction_of_host_cons hhost) hs, stepFlushPost_of_bytes hanswer]
  rw [hread, State.rxRead_of_reads_cons hpending, hclip, State.dropAction_of_host_cons hhost]

end

/-- Settles O40, by induction on the number of steps: each leaves the flush running over the rest of the two lists, with
one more interaction. -/
theorem aFlushRunsAsLongAsTheDeviceSends : Obligations.AFlushRunsAsLongAsTheDeviceSends := by
  intro k b s h r hs hhost hreads
  induction k generalizing s with
  | zero => exact ⟨s, rfl, rfl, hreads, rfl⟩
  | succ k ih =>
    rw [List.replicate_succ, List.cons_append] at hhost hreads
    obtain ⟨t, hrun, hstate, hrest, htrace⟩ := ih
      { s with host := _, reads := _, trace := s.trace ++ [.rxRead Config.flushReadMax (.bytes [b])] } hs rfl rfl
    refine ⟨t, (run_succ_of_step k (step_flush_of_byte hs hhost hreads)).trans hrun, hstate, hrest, ?_⟩
    rw [htrace, List.length_append, List.length_singleton, Nat.add_right_comm, Nat.add_assoc]

end Sys2Proof.Machine
end

section
/-! The boot order (70_reset_and_hazards.md R124): what a reset and a legal `CONFIG` leave, where the host's action is
decided. -/

namespace Sys2Proof.Machine

section
variable {s : State} {h : List HostAction}

/-- A decided reset (70_reset_and_hazards.md R122). -/
theorem step_reset_of_host_cons (hhost : s.host = .reset :: h) :
    step s = .next { s.sessionReset with host := h } := by
  rw [step_of_reset (nextAction_of_host_cons hhost), State.dropAction_of_host_cons hhost]
  rfl

/-- A legal `CONFIG` in `START` (42_handshake_fsm.md R82). -/
theorem step_config_of_start {m : BitVec 2} {tm : TriggerMode} {n : Bool} (hs : s.hsState = .start)
    (hcode : TriggerMode.ofCode m = some tm) (hhost : s.host = .command (encode (.config m n)) :: h) :
    step s = .next { s with host := h, cfgTm := tm, cfgNorm := n, lastErr := .none } := by
  rw [step_of_command (nextAction_of_host_cons hhost), issue_of_decode (decode_encode (.config m n)),
    exec_config_of_code_some (by simpa using hs) hcode, State.dropAction_of_host_cons hhost]
  rfl

end

/-- Settles O42, step by step: the reset gives `START`, in which `CONFIG` loads and `HANDSHAKE` starts the first
flush. -/
theorem bootOrderOpensASession : Obligations.BootOrderOpensASession := by
  intro s m n k h hm hhost
  obtain ⟨tm, hcode⟩ := Option.ne_none_iff_exists'.mp (mt (TriggerMode.ofCode_eq_none_iff m).mp hm)
  have hreset := run_succ_of_step 2 (step_reset_of_host_cons hhost)
  have hconfig := hreset.trans (run_succ_of_step 1 (step_config_of_start rfl hcode rfl))
  have hopened := hconfig.trans (run_succ_of_step 0 (step_handshake_of_start rfl rfl))
  exact ⟨_, hopened, rfl, TriggerMode.code_of_ofCode hcode, rfl, rfl, rfl, rfl, rfl⟩

end Sys2Proof.Machine
end
